-- ==== Sys2Proof/Word.lean ====
section
/-! DEFINITION. The word types of the block: a byte (R8), a 32-bit register or command word (R100, R300), and a
64-bit quantity held as a LO/HI pair (R100). -/

namespace Sys2Proof

/-- R8: a byte is 8 bits. -/
abbrev Byte := BitVec 8

/-- R100, R300: the block's registers and its command words are 32 bits wide. -/
abbrev Word := BitVec 32

/-- R100: a 64-bit quantity (`VAL`, `RES0`, `RES1`, `SCALE_PB`, `ANGLE_SC`). -/
abbrev DWord := BitVec 64

end Sys2Proof
end

