-- ==== Sys2Proof/Syntax.lean ====
section
/-! DEFINITION. The command set as data: one constructor of `Instr` per row of spec/opcode_table.json (R303), and the
fields of the one command format, C (R300). -/

namespace Sys2Proof

/-- R300, field `SP`: the space a command reads, `BUF` (0) or `ACC` (1). -/
inductive Space
  | buf
  | acc
  deriving DecidableEq, Repr

/-- R300, field `F`: the encoding of a phasor, two i16 (0) or two binary32 (1). -/
inductive PhasorFormat
  | fixed
  | float
  deriving DecidableEq, Repr

/-- R300, field `P`: the coordinates of a phasor, rectangular (0) or polar (1). -/
inductive PhasorCoords
  | rect
  | polar
  deriving DecidableEq, Repr

/-- The 27 commands of R303. A constructor's arguments are exactly the fields its "uses" column lists. -/
inductive Instr
  | nop
  | rdu8 (sp : Space)
  | rdu16 (sp : Space)
  | rdu24 (sp : Space)
  | rdu32 (sp : Space)
  | rdi16 (sp : Space)
  | rdf32 (sp : Space)
  | rdf64 (sp : Space)
  | wru8
  | wru16
  | wru24
  | wru32
  | wri16
  | wrf32
  | wrf64
  | crcccitt (sp : Space)
  | crc16 (sp : Space)
  | chkccitt (sp : Space)
  | chk16 (sp : Space)
  | hdrparse (sp : Space)
  | setdlen
  | decf32 (sp : Space)
  | decfix (sp : Space)
  | decph (sp : Space) (f : PhasorFormat) (p : PhasorCoords)
  | feed
  | frameack
  | syncreset
  deriving DecidableEq, Repr

/-- The fields of a command word in format C (R300). -/
structure CmdFields where
  /-- bits [7:0] -/
  op : BitVec 8
  /-- bit [8] -/
  sp : Bool
  /-- bit [9] -/
  a : Bool
  /-- bit [10] -/
  f : Bool
  /-- bit [11] -/
  p : Bool
  /-- bits [31:12] -/
  rsv : BitVec 20
  deriving DecidableEq, Repr

/-- R300: the `SP` bit of a space. -/
def Space.bit : Space → Bool
  | .buf => false
  | .acc => true

/-- R300: the `F` bit of a phasor format. -/
def PhasorFormat.bit : PhasorFormat → Bool
  | .fixed => false
  | .float => true

/-- R300: the `P` bit of phasor coordinates. -/
def PhasorCoords.bit : PhasorCoords → Bool
  | .rect => false
  | .polar => true

/-- The fields of a command that uses none of `SP`, `A`, `F`, `P`. -/
def CmdFields.plain (op : BitVec 8) : CmdFields :=
  { op := op, sp := false, a := false, f := false, p := false, rsv := 0 }

/-- The fields of a command that uses `SP` alone. -/
def CmdFields.spaced (op : BitVec 8) (sp : Space) : CmdFields :=
  { CmdFields.plain op with sp := sp.bit }

/-- The field values of a command, from the `OP`, `A` and "uses" columns of R303. -/
def Instr.fields : Instr → CmdFields
  | .nop => .plain 0x00
  | .rdu8 sp => .spaced 0x10 sp
  | .rdu16 sp => .spaced 0x11 sp
  | .rdu24 sp => .spaced 0x12 sp
  | .rdu32 sp => .spaced 0x13 sp
  | .rdi16 sp => .spaced 0x14 sp
  | .rdf32 sp => .spaced 0x15 sp
  | .rdf64 sp => .spaced 0x16 sp
  | .wru8 => .plain 0x20
  | .wru16 => .plain 0x21
  | .wru24 => .plain 0x22
  | .wru32 => .plain 0x23
  | .wri16 => .plain 0x24
  | .wrf32 => .plain 0x25
  | .wrf64 => .plain 0x26
  | .crcccitt sp => .spaced 0x30 sp
  | .crc16 sp => { CmdFields.spaced 0x30 sp with a := true }
  | .chkccitt sp => .spaced 0x31 sp
  | .chk16 sp => { CmdFields.spaced 0x31 sp with a := true }
  | .hdrparse sp => .spaced 0x40 sp
  | .setdlen => .plain 0x41
  | .decf32 sp => .spaced 0x50 sp
  | .decfix sp => .spaced 0x51 sp
  | .decph sp f p => { CmdFields.spaced 0x52 sp with f := f.bit, p := p.bit }
  | .feed => .plain 0x60
  | .frameack => .plain 0x61
  | .syncreset => .plain 0x62

end Sys2Proof
end

