-- ==== Sys2Proof/WellFormed.lean ====
section
/-! DEFINITION. Which field values make a command, from the prose of R301, R303 and R607 (the listed opcodes, the "uses"
column, the reserved bits). The decoder is written from the match and mask columns of R303 instead, so that the two can be
held against each other. -/

namespace Sys2Proof

/-- Which of the modifier fields an opcode uses. -/
structure FieldUse where
  sp : Bool
  a : Bool
  f : Bool
  p : Bool
  deriving DecidableEq, Repr

/-- The "uses" column of R303 by opcode; `none` for an opcode that R303 does not list. For 0x30 and 0x31 the `A` bit is
part of the opcode (R301), so both values of it are listed. -/
def opUse (op : BitVec 8) : Option FieldUse :=
  if op = 0x00 then some ⟨false, false, false, false⟩
  else if 0x10 ≤ op ∧ op ≤ 0x16 then some ⟨true, false, false, false⟩
  else if 0x20 ≤ op ∧ op ≤ 0x26 then some ⟨false, false, false, false⟩
  else if op = 0x30 ∨ op = 0x31 then some ⟨true, true, false, false⟩
  else if op = 0x40 then some ⟨true, false, false, false⟩
  else if op = 0x41 then some ⟨false, false, false, false⟩
  else if op = 0x50 ∨ op = 0x51 then some ⟨true, false, false, false⟩
  else if op = 0x52 then some ⟨true, false, true, true⟩
  else if 0x60 ≤ op ∧ op ≤ 0x62 then some ⟨false, false, false, false⟩
  else none

/-- R303: the opcode is a listed one. -/
def CmdFields.opListed (c : CmdFields) : Bool := (opUse c.op).isSome

/-- R301: "A field a command does not use must be 0." -/
def CmdFields.unusedClear (c : CmdFields) : Bool :=
  match opUse c.op with
  | some u => (u.sp || !c.sp) && (u.a || !c.a) && (u.f || !c.f) && (u.p || !c.p)
  | none => true

/-- R300: `RSV`, bits [31:12], "must be 0". -/
def CmdFields.rsvClear (c : CmdFields) : Bool := c.rsv == 0

/-- The field values of a command of version 1. -/
def CmdFields.wellFormed (c : CmdFields) : Bool := c.rsvClear && c.opListed && c.unusedClear

/-- A command is well formed when the fields it stands for are. -/
def Instr.wellFormed (i : Instr) : Bool := i.fields.wellFormed

end Sys2Proof
end

