-- ==== Sys2Proof/Decode.lean ====
section
/-! DEFINITION. The decoder (R304) over the opcode map of R303, and after it the encoder, written from the field positions
of R300. -/

namespace Sys2Proof

/-- R300: the fields of a command word. -/
def splitWord (w : Word) : CmdFields where
  op := w.extractLsb' 0 8
  sp := w.getLsbD 8
  a := w.getLsbD 9
  f := w.getLsbD 10
  p := w.getLsbD 11
  rsv := w.extractLsb' 12 20

/-- R300, field `SP`. -/
def spaceOf (c : CmdFields) : Space := if c.sp then .acc else .buf

/-- R300, field `F`. -/
def formatOf (c : CmdFields) : PhasorFormat := if c.f then .float else .fixed

/-- R300, field `P`. -/
def coordsOf (c : CmdFields) : PhasorCoords := if c.p then .polar else .rect

/-- One row of the opcode map: a word `w` selects it when `(w AND mask) = pattern`. -/
structure OpcodeRow where
  pattern : Word
  mask : Word
  build : CmdFields → Instr

/-- R303: the rows with no opcode family of their own and the extractor's rows. -/
def opcodeMapRead : List OpcodeRow :=
  [ ⟨0x00000000, 0xFFFFFFFF, fun _ => .nop⟩,
    ⟨0x00000010, 0xFFFFFEFF, fun c => .rdu8 (spaceOf c)⟩,
    ⟨0x00000011, 0xFFFFFEFF, fun c => .rdu16 (spaceOf c)⟩,
    ⟨0x00000012, 0xFFFFFEFF, fun c => .rdu24 (spaceOf c)⟩,
    ⟨0x00000013, 0xFFFFFEFF, fun c => .rdu32 (spaceOf c)⟩,
    ⟨0x00000014, 0xFFFFFEFF, fun c => .rdi16 (spaceOf c)⟩,
    ⟨0x00000015, 0xFFFFFEFF, fun c => .rdf32 (spaceOf c)⟩,
    ⟨0x00000016, 0xFFFFFEFF, fun c => .rdf64 (spaceOf c)⟩ ]

/-- R303: the encoder's rows. -/
def opcodeMapWrite : List OpcodeRow :=
  [ ⟨0x00000020, 0xFFFFFFFF, fun _ => .wru8⟩,
    ⟨0x00000021, 0xFFFFFFFF, fun _ => .wru16⟩,
    ⟨0x00000022, 0xFFFFFFFF, fun _ => .wru24⟩,
    ⟨0x00000023, 0xFFFFFFFF, fun _ => .wru32⟩,
    ⟨0x00000024, 0xFFFFFFFF, fun _ => .wri16⟩,
    ⟨0x00000025, 0xFFFFFFFF, fun _ => .wrf32⟩,
    ⟨0x00000026, 0xFFFFFFFF, fun _ => .wrf64⟩ ]

/-- R303: the checksum and header rows. -/
def opcodeMapFrame : List OpcodeRow :=
  [ ⟨0x00000030, 0xFFFFFEFF, fun c => .crcccitt (spaceOf c)⟩,
    ⟨0x00000230, 0xFFFFFEFF, fun c => .crc16 (spaceOf c)⟩,
    ⟨0x00000031, 0xFFFFFEFF, fun c => .chkccitt (spaceOf c)⟩,
    ⟨0x00000231, 0xFFFFFEFF, fun c => .chk16 (spaceOf c)⟩,
    ⟨0x00000040, 0xFFFFFEFF, fun c => .hdrparse (spaceOf c)⟩,
    ⟨0x00000041, 0xFFFFFFFF, fun _ => .setdlen⟩ ]

/-- R303: the numeric and synchronizer rows. -/
def opcodeMapStream : List OpcodeRow :=
  [ ⟨0x00000050, 0xFFFFFEFF, fun c => .decf32 (spaceOf c)⟩,
    ⟨0x00000051, 0xFFFFFEFF, fun c => .decfix (spaceOf c)⟩,
    ⟨0x00000052, 0xFFFFF2FF, fun c => .decph (spaceOf c) (formatOf c) (coordsOf c)⟩,
    ⟨0x00000060, 0xFFFFFFFF, fun _ => .feed⟩,
    ⟨0x00000061, 0xFFFFFFFF, fun _ => .frameack⟩,
    ⟨0x00000062, 0xFFFFFFFF, fun _ => .syncreset⟩ ]

/-- R303: the opcode map, 27 rows. -/
def opcodeMap : List OpcodeRow :=
  opcodeMapRead ++ opcodeMapWrite ++ opcodeMapFrame ++ opcodeMapStream

/-- R304: "A word w selects a row when (w AND mask) = match." -/
def OpcodeRow.selects (r : OpcodeRow) (w : Word) : Bool := w &&& r.mask == r.pattern

/-- Why a word is no command, by name (R607 lists the three causes). The block reports all three alike, as
IllegalCommand (code 7). -/
inductive IllegalWord
  | reservedBits
  | unlistedOpcode
  | unusedField
  deriving DecidableEq, Repr

/-- The cause in R607 that a word selecting no row falls under; where several hold, the first of this order (a label of
the model's: nothing the block does depends on it). -/
def illegalCause (c : CmdFields) : IllegalWord :=
  if c.rsvClear then (if c.opListed then .unusedField else .unlistedOpcode) else .reservedBits

/-- R304: the first row the word selects, or ILLEGAL. -/
def decode (w : Word) : Except IllegalWord Instr :=
  match opcodeMap.find? (·.selects w) with
  | some r => .ok (r.build (splitWord w))
  | none => .error (illegalCause (splitWord w))

/-- R300: the word with the given fields. -/
def packFields (c : CmdFields) : Word :=
  c.rsv ++ BitVec.ofBool c.p ++ BitVec.ofBool c.f ++ BitVec.ofBool c.a ++ BitVec.ofBool c.sp ++ c.op

/-- The command word of an instruction: its fields (R303) at their positions (R300). -/
def encode (i : Instr) : Word := packFields i.fields

/-- The instruction the decoder reads from a table word of `nbits` bits; every bit above them is 0. A command is one
32-bit word (R306), so there is nothing to lay out. -/
def decodeTableWord (nbits w : Nat) : Option Instr :=
  match decode (BitVec.ofNat 32 (w % 2 ^ nbits)) with
  | .ok i => some i
  | .error _ => none

end Sys2Proof
end

