-- ==== Sys2Proof/Config.lean ====
section
/-! DEFINITION. What is fixed for one build of the block: the parameters of R7, the OPEN parameters a model takes as an
argument (93_implementation_defined.md part C), and the one free value (the content of a `BUF` byte that nothing has
written, R215). -/

namespace Sys2Proof

/-- R7, D5: `BUF_SIZE`, bytes. -/
abbrev bufSize : Nat := 65536

/-- R7, D6: `ACC_SIZE`, bytes. -/
abbrev accSize : Nat := 65535

/-- R7: `SYNC_BYTE`. -/
def syncByte : Byte := 0xAA

/-- R7: `FIXED_HEADER_LEN`, bytes. -/
def headerLen : Nat := 14

/-- R7: `MIN_FRAME_LEN`, a header and a trailer. -/
def minFrameLen : Nat := 16

/-- R7, R445: `MAX_DATA_LEN`. -/
def maxDataLen : Nat := 65519

/-- R7: `VERSION_MAX`. -/
def versionMax : Nat := 3

/-- R432: `CRC16_CFG`, the OPEN parameter of the CRC-16 (D12). -/
structure Crc16Cfg where
  init : BitVec 16
  xorout : BitVec 16
  deriving DecidableEq, Repr

/-- The OPEN parameters that some behaviour of the block depends on. `State` carries one value of this type, no step
changes it, and every statement about all states holds for every value of it: this is how the model "takes" them "as an
argument" (R432). -/
structure Config where
  /-- R204: `BLOCK_BASE`, the host address of the 256 KiB aperture. -/
  blockBase : Nat
  /-- R432: `CRC16_CFG`. -/
  crc16 : Crc16Cfg
  deriving DecidableEq, Repr

/-- The configuration of the reset state. R432: "The default configuration of this hardware is CRC16_INIT = 0x0000,
CRC16_XOROUT = 0x0000" (log entry 3). The spec gives `BLOCK_BASE` no default; 0 is a DESIGN CHOICE (log entry 4). -/
def Config.default : Config where
  blockBase := 0
  crc16 := { init := 0x0000, xorout := 0x0000 }

/-- FREE VALUE (log entry 1). R215: "A byte of BUF that neither the host nor a command has written since reset holds an
unspecified value." `unwrittenByte epoch a` is the byte at offset `a` after the `epoch`-th hardware reset: it is the same
at every read until the byte is written (U1), and nothing says what it is. -/
opaque Config.unwrittenByte : Nat → Nat → Byte

end Sys2Proof
end

