-- ==== Sys2Proof/Machine/State.lean ====
section
/-! DEFINITION. The state of one block instance: every register of 10_state.md, the memories and the hidden queue of R144,
the configuration of the build, and the model's own fields for the host's accesses. Plain data throughout. -/

namespace Sys2Proof.Machine

/-- R600: the errors of the block, one constructor for each code from 1 to 8; codes 9 to 255 are never produced (U8). -/
inductive CmdError
  | bufferTooShort
  | syncByteMismatch
  | invalidFrameTypeOrVersion
  | dataLengthOverflow
  | checksumMismatch
  | frameLengthTooShort
  | illegalCommand
  | syncStateError
  deriving DecidableEq, Repr

/-- R129: the states of the synchronizer. -/
inductive SyncState
  | seeking
  | hdrBuf
  | bodyBuf
  | dispatch
  deriving DecidableEq, Repr

/-- R121 to R128: the header result registers. -/
structure HdrRegs where
  /-- `HDR_TYPE.B7` -/
  b7 : Bool
  /-- `HDR_TYPE.TYPE` -/
  ftype : BitVec 3
  /-- `HDR_VER` -/
  ver : BitVec 4
  /-- `HDR_FLEN` -/
  flen : BitVec 16
  /-- `HDR_ID` -/
  id : BitVec 16
  /-- `HDR_SOC` -/
  soc : BitVec 32
  /-- `HDR_FRAC` -/
  frac : BitVec 24
  /-- `HDR_TQ` -/
  tq : BitVec 8
  /-- `HDR_DLEN` -/
  dlen : BitVec 16
  deriving DecidableEq, Repr

/-- R460: the synchronizer's state. `ACC_CNT` and `REPLAY_CNT` are the lengths of the two lists (R130, R131, R144); the
bytes of `ACC` at and beyond `ACC_CNT` are not held, since nothing can observe them (U3, log entry 5). -/
structure Sync where
  /-- `SYNC_STATE` -/
  state : SyncState
  /-- the candidate `ACC[0 .. ACC_CNT-1]` -/
  acc : List Byte
  /-- the `REPLAY` queue, front first -/
  replay : List Byte
  /-- `FRAME_TYPE` -/
  frameType : BitVec 3
  /-- `FRAME_LEN` -/
  frameLen : BitVec 16
  /-- `FRAME_POS` -/
  framePos : Word
  /-- `STREAM_POS` -/
  streamPos : Word
  /-- `FRAME_CNT` -/
  frameCnt : Word
  /-- `CMDF_CNT` -/
  cmdfCnt : Word
  /-- `RESYNC_CNT` -/
  resyncCnt : Word
  /-- `CRCERR_CNT` -/
  crcErrCnt : Word
  /-- `SKIP_CNT` -/
  skipCnt : Word
  /-- `DIAG_CAUSE` -/
  diagCause : BitVec 8
  /-- `DIAG_POS` -/
  diagPos : Word
  deriving DecidableEq, Repr

/-- What the synchronizer's step reads besides its own state (R460): `CRC_ALG`, `CRC_VEN` and `CRC16_CFG`. -/
structure SyncEnv where
  crcAlg : BitVec 8
  crcVen : BitVec 8
  crc16 : Crc16Cfg
  deriving DecidableEq, Repr

/-- What the synchronizer's step changes: its own state and `IRQ_PEND` (R460). -/
structure SyncRun where
  sync : Sync
  pend : BitVec 3
  deriving DecidableEq, Repr

/-- The working state of one FEED (R472): the synchronizer, the bytes of the chunk not yet taken, and the count `k` of
those taken. -/
structure FeedRun where
  run : SyncRun
  input : List Byte
  taken : Nat
  deriving DecidableEq, Repr

/-- The contents of `BUF` that something has written since reset, by offset. The canonical form is `Memory.wf`: offsets
strictly rising and inside `BUF`. An unlisted offset reads as no value (it was never written), so no entry can equal it. -/
abbrev Memory := List Host.Cell

/-- The canonical form of `Memory`. -/
abbrev Memory.wf (m : Memory) : Prop :=
  m.Pairwise (fun c d => c.1 < d.1) ∧ ∀ c ∈ m, c.1 < bufSize

/-- The widths of a host access (R209 names 8, 16, 32 and 64 bits). -/
inductive Width
  | w8
  | w16
  | w32
  | w64
  deriving DecidableEq, Repr

/-- What a host access does; the data of a write is in the low bits. -/
inductive AccessKind
  | read
  | write (data : DWord)
  deriving DecidableEq, Repr

/-- One access of the host (R12, R217), at a host address. -/
structure Access where
  addr : Nat
  width : Width
  kind : AccessKind
  deriving DecidableEq, Repr

/-- What the outside world can do to the block: the accesses of the host, and the reset input (R700). -/
inductive HostEvent
  | access (a : Access)
  | hardwareReset
  deriving DecidableEq, Repr

/-- What the block answered to the last host event. The block keeps no such register: this is the model's record of what
the bus returned to the host, and no rule of the block reads it. -/
inductive BusResponse
  /-- nothing yet, or a hardware reset -/
  | idle
  /-- the data of a legal read; an 8-bit read's byte is in bits [7:0] (R208) -/
  | data (v : Word)
  /-- a legal write was accepted -/
  | written
  /-- R209: a bus error, with no data and no change of state -/
  | busError
  /-- the address lies outside this instance's aperture (R204, R642): another device's access -/
  | notSelected
  deriving DecidableEq, Repr

/-- Why the machine stops with a fault: nothing does. R14: the engine "never blocks, never crashes on malformed input,
always makes forward progress", and "every command completes in one step with a result or an error code, for every
register and buffer content". -/
inductive Fault
  deriving DecidableEq, Repr

/-- Why the model gives no meaning. -/
inductive Refusal
  /-- Raised by an arm of `exec` whose instruction has no meaning yet: safe. No arm raises it. -/
  | notModelled (mnemonic : String)
  deriving DecidableEq, Repr

/-- The state of the block and, in its first four fields, of the model's view of its surroundings. -/
structure State where
  /-- the OPEN parameters of the build; no step changes them -/
  cfg : Config
  /-- MODEL'S OWN: the number of hardware resets before now, the index of the free value `Config.unwrittenByte` -/
  epoch : Nat
  /-- MODEL'S OWN: the host's pending events, the next one first (R12, R217) -/
  host : List HostEvent
  /-- MODEL'S OWN: the bus's answer to the last event -/
  resp : BusResponse
  /-- R105: `CMD` -/
  cmd : Word
  /-- R106: `STATUS.ERR`, the one stored bit of `STATUS` -/
  err : Bool
  /-- R107: `ERRCODE` -/
  errCode : BitVec 8
  /-- R108: `OFF` -/
  off : Word
  /-- R109: `LEN` -/
  len : Word
  /-- R110: `VAL` -/
  val : DWord
  /-- R111: `RES0` -/
  res0 : DWord
  /-- R111: `RES1` -/
  res1 : DWord
  /-- R112: `CONSUMED` -/
  consumed : Word
  /-- R113: `LIMIT`, WARL: every legal value, 0 to 65536, and no other -/
  limit : Fin (bufSize + 1)
  /-- R114: `SCALEVAL` -/
  scaleVal : Word
  /-- R115: `SCALE_PB` -/
  scalePb : DWord
  /-- R116: `ANGLE_SC` -/
  angleSc : DWord
  /-- R117: `CRC_ALG` -/
  crcAlg : BitVec 8
  /-- R118: `CRC_VEN` -/
  crcVen : BitVec 8
  /-- R119: `IRQ_EN` -/
  irqEn : BitVec 3
  /-- R120: `IRQ_PEND` -/
  irqPend : BitVec 3
  /-- R121 to R128: `HDR_TYPE` to `HDR_DLEN` -/
  hdr : HdrRegs
  /-- R129 to R142, R144: the synchronizer, with `ACC` and `REPLAY` -/
  sync : Sync
  /-- R200: `BUF` -/
  buf : Memory
  deriving DecidableEq, Repr

/-- R146: the header registers reset to 0. -/
def HdrRegs.reset : HdrRegs where
  b7 := false
  ftype := 0
  ver := 0
  flen := 0
  id := 0
  soc := 0
  frac := 0
  tq := 0
  dlen := 0

/-- R146, R474: the synchronizer after reset and after SYNCRESET. -/
def Sync.reset : Sync where
  state := .seeking
  acc := []
  replay := []
  frameType := 0
  frameLen := 0
  framePos := 0
  streamPos := 0
  frameCnt := 0
  cmdfCnt := 0
  resyncCnt := 0
  crcErrCnt := 0
  skipCnt := 0
  diagCause := 0
  diagPos := 0

/-- R146, R700: the block after a hardware reset. No host access is pending: a program is the list of accesses the host
issues, and it comes from outside (log entry 6). `ID` and `VERSION` are constants (R103, R104) and have no field. -/
def State.reset : State where
  cfg := Config.default
  epoch := 0
  host := []
  resp := .idle
  cmd := 0
  err := false
  errCode := 0
  off := 0
  len := 0
  val := 0
  res0 := 0
  res1 := 0
  consumed := 0
  limit := ⟨65536, by decide⟩
  scaleVal := 1
  scalePb := 0x3EE4F8B588E368F1
  angleSc := 0x3F1A36E2EB1C432D
  crcAlg := 0xFD
  crcVen := 0xFF
  irqEn := 0
  irqPend := 0
  hdr := HdrRegs.reset
  sync := Sync.reset
  buf := []

end Sys2Proof.Machine
end

