-- ==== Sys2Proof/Machine/Ops.lean ====
section
/-! DEFINITION. The shared operations: the bytes of `BUF` and `ACC`, big-endian fields (R205 to R207), the named updates
of result registers, and the two ends of a command, success and error (R402, R403). -/

namespace Sys2Proof.Machine

/-- R600: the code of an error. -/
def CmdError.code : CmdError → BitVec 8
  | .bufferTooShort => 1
  | .syncByteMismatch => 2
  | .invalidFrameTypeOrVersion => 3
  | .dataLengthOverflow => 4
  | .checksumMismatch => 5
  | .frameLengthTooShort => 6
  | .illegalCommand => 7
  | .syncStateError => 8

/-! ### The cells of `BUF` -/

/-- The byte that was last written at an offset, if one was. -/
def Memory.byteAt? : Memory → Nat → Option Byte
  | [], _ => none
  | c :: m, a => if c.1 = a then some c.2 else Memory.byteAt? m a

/-- Write one byte; the canonical form is kept (`Memory.store_wf`). -/
def Memory.store : Memory → Nat → Byte → Memory
  | [], a, b => [(a, b)]
  | c :: m, a, b =>
    if a < c.1 then (a, b) :: c :: m
    else if a = c.1 then (a, b) :: m
    else c :: Memory.store m a b

/-- Write a list of bytes at rising offsets. -/
def Memory.storeBytes : Memory → Nat → List Byte → Memory
  | m, _, [] => m
  | m, a, b :: bs => Memory.storeBytes (Memory.store m a b) (a + 1) bs

/-- `BUF[a]`: the byte written there, or the free value of R215 where nothing was written since reset. -/
def State.bufByte (s : State) (a : Nat) : Byte :=
  (Memory.byteAt? s.buf a).getD (Config.unwrittenByte s.epoch a)

/-- `ACC[k]` as anything can observe it: R208, "k >= ACC_CNT ... returns 0x00". -/
def State.accByte (s : State) (k : Nat) : Byte := s.sync.acc.getD k 0

/-! ### Big-endian fields -/

/-- R9: `BE(bytes)`, the first byte most significant. -/
def be (bs : List Byte) : Nat := bs.foldl (fun u b => u * 256 + b.toNat) 0

/-- R9, notation `b[i..i+n-1]`: `n` bytes of a list from index `i`. -/
def slice (bs : List Byte) (i n : Nat) : List Byte := (bs.drop i).take n

/-- R206: the `n` bytes of a value, most significant first: byte `k` is `v[8(n-1-k)+7 : 8(n-1-k)]`. -/
def beBytes (n : Nat) (v : DWord) : List Byte :=
  (List.range n).map (fun k => v.extractLsb' (8 * (n - 1 - k)) 8)

/-! ### Named updates -/

/-- `RES0` and `CONSUMED`. -/
def State.withResult (s : State) (r : DWord) (n : Word) : State :=
  { s with res0 := r, consumed := n }

/-- `RES0`, `RES1` and `CONSUMED`. -/
def State.withResults (s : State) (r0 r1 : DWord) (n : Word) : State :=
  { s with res0 := r0, res1 := r1, consumed := n }

/-- R206: `MemWrite(BUF, a, n, v)`, and `CONSUMED`. -/
def State.withStored (s : State) (a n : Nat) (v : DWord) : State :=
  { s with buf := Memory.storeBytes s.buf a (beBytes n v), consumed := BitVec.ofNat 32 n }

/-- The header registers and `CONSUMED` (R446). -/
def State.withHeader (s : State) (h : HdrRegs) (n : Word) : State :=
  { s with hdr := h, consumed := n }

/-- R447: `HDR_DLEN`, `HDR_FLEN` and `RES0` from a data length. -/
def State.withDataLength (s : State) (d : Nat) : State :=
  { s with
    hdr := { s.hdr with dlen := BitVec.ofNat 16 d, flen := BitVec.ofNat 16 (d + 16) }
    res0 := BitVec.ofNat 64 (d + 16) }

/-- The synchronizer alone (R473, R474). -/
def State.withSync (s : State) (y : Sync) : State := { s with sync := y }

/-- R472: what a FEED leaves: the synchronizer, `IRQ_PEND`, `RES0` and `CONSUMED`. -/
def State.withFeed (s : State) (f : FeedRun) : State :=
  { s with
    sync := f.run.sync
    irqPend := f.run.pend
    res0 := BitVec.ofNat 64 f.taken
    consumed := BitVec.ofNat 32 f.taken }

/-- The bus's answer to a host event. -/
def State.withResp (s : State) (r : BusResponse) : State := { s with resp := r }

/-! ### The end of a command -/

/-- R611: set one bit of `IRQ_PEND`; setting a bit that is set leaves it set. -/
def setPending (p : BitVec 3) (i : Nat) : BitVec 3 := p ||| BitVec.twoPow 3 i

/-- R402, outcome OK: `STATUS.ERR <- 0` and `ERRCODE <- 0`. -/
def State.succeed (s : State) : State := { s with err := false, errCode := 0 }

/-- TAKING AN ERROR. R402: `STATUS.ERR <- 1`, `ERRCODE <- code(E)`, `IRQ_PEND[2] <- 1`. R620: this is all that an error
does: it saves no state, changes no mode and transfers no control, and there is no return from it (R621). -/
def State.fail (s : State) (e : CmdError) : State :=
  { s with err := true, errCode := e.code, irqPend := setPending s.irqPend 2 }

/-- R402, R403: `finish(outcome)`. A command rule gives the state it would leave, or the error it raises; what a raising
command had computed is dropped, so that "a command that raises writes no register and no memory byte other than those
rule R402 names". -/
def finish (s : State) (outcome : Except CmdError State) : Host.Outcome State Fault Refusal :=
  .next (match outcome with
    | .ok t => t.succeed
    | .error e => s.fail e)

end Sys2Proof.Machine
end

