-- ==== Sys2Proof/Machine/Flags.lean ====
section
/-! DEFINITION. The status bits (R145): the live views of `STATUS` (R106) and the interrupt output (R610). -/

namespace Sys2Proof.Machine

/-- R129: the code of a synchronizer state. -/
def SyncState.code : SyncState → BitVec 2
  | .seeking => 0
  | .hdrBuf => 1
  | .bodyBuf => 2
  | .dispatch => 3

/-- R610: the level of the interrupt output, `IRQ_EN[i] and IRQ_PEND[i]` for some `i`. -/
def State.irq (s : State) : Bool := s.irqEn &&& s.irqPend != 0

/-- R106: `STATUS.FRAME_READY`. -/
def State.frameReady (s : State) : Bool := decide (s.sync.state = .dispatch)

/-- R106: `STATUS.REPLAY_PEND`. -/
def State.replayPend (s : State) : Bool := !s.sync.replay.isEmpty

/-- R106: `STATUS`: bit 0 ERR, bit 1 FRAME_READY, bit 2 REPLAY_PEND, bit 3 IRQ, the rest 0. -/
def State.status (s : State) : Word :=
  (0 : BitVec 28) ++ BitVec.ofBool s.irq ++ BitVec.ofBool s.replayPend ++ BitVec.ofBool s.frameReady
    ++ BitVec.ofBool s.err

end Sys2Proof.Machine
end

