-- ==== Sys2Proof/Machine/Operands.lean ====
section
/-! DEFINITION. The one operand form of the block (R302): a byte range of a space, at offset `OFF`, under the bounds rule
R203. -/

namespace Sys2Proof.Machine

/-- R203: `limit(BUF) = reg[LIMIT]` and `limit(ACC) = reg[ACC_CNT]`. -/
def State.limitOf (s : State) : Space → Nat
  | .buf => s.limit.val
  | .acc => s.sync.acc.length

/-- R203: an access of `n` bytes at offset `a` is in bounds when `a + n <= limit(S)`, on unbounded integers. -/
def State.inBounds (s : State) (sp : Space) (a n : Nat) : Bool := decide (a + n ≤ s.limitOf sp)

/-- `S[a]`. -/
def State.spaceByte (s : State) (sp : Space) (a : Nat) : Byte :=
  match sp with
  | .buf => s.bufByte a
  | .acc => s.accByte a

/-- R205: `MemRead(S, a, n)`, the list `[S[a], S[a+1], ..., S[a+n-1]]`. -/
def State.memRead (s : State) (sp : Space) (a n : Nat) : List Byte :=
  (List.range n).map (fun k => s.spaceByte sp (a + k))

/-- The bytes of a command's operand, at offset `OFF`, or BufferTooShort (R203). -/
def State.operand (s : State) (sp : Space) (n : Nat) : Except CmdError (List Byte) :=
  if s.inBounds sp s.off.toNat n then .ok (s.memRead sp s.off.toNat n)
  else .error .bufferTooShort

/-- R9: `zext_64` of an unsigned field. -/
def zext64 (u : Nat) : DWord := BitVec.ofNat 64 u

/-- R9, R415: `sext_64` of a 16-bit field. -/
def sext16 (u : Nat) : DWord := (BitVec.ofNat 16 u).signExtend 64

/-- R9: `toSigned_16` of a 16-bit field. -/
def toSigned16 (u : Nat) : Int := (BitVec.ofNat 16 u).toInt

end Sys2Proof.Machine
end

