-- ==== Sys2Proof/Machine/Bus.lean ====
section
/-! DEFINITION. The host aperture (R204, R208, R209): reads and writes of the registers (10_state.md) and of the `BUF` and
`ACC` windows. A write of `CMD` stores the word here; Machine/Execute.lean runs it. -/

namespace Sys2Proof.Machine

/-- R204: the regions of the aperture, with the offset inside the region. -/
inductive Region
  | registers (off : Nat)
  | bufWindow (k : Nat)
  | accWindow (k : Nat)
  | unmapped
  deriving DecidableEq, Repr

/-- R204: `BLOCK_BASE` is the host address of the 256 KiB aperture; `none` for an address outside it. -/
def apertureOffset (cfg : Config) (addr : Nat) : Option Nat :=
  if cfg.blockBase ≤ addr ∧ addr < cfg.blockBase + 0x40000 then some (addr - cfg.blockBase) else none

/-- R204: the region of an aperture offset. -/
def regionOf (off : Nat) : Region :=
  if off < 0x100 then .registers off
  else if 0x10000 ≤ off ∧ off < 0x20000 then .bufWindow (off - 0x10000)
  else if 0x20000 ≤ off ∧ off < 0x30000 then .accWindow (off - 0x20000)
  else .unmapped

/-- R209: a register access "must be 32 bits wide at a 4-aligned offset". -/
def registerLegal (off : Nat) (w : Width) : Bool := decide (w = .w32 ∧ off % 4 = 0)

/-- R209: a window access "must be 8 bits wide, or 32 bits wide at a 4-aligned offset". -/
def windowLegal (k : Nat) (w : Width) : Bool := decide (w = .w8 ∨ (w = .w32 ∧ k % 4 = 0))

/-- The LO half of a 64-bit register (R100). -/
def loHalf (v : DWord) : Word := v.extractLsb' 0 32

/-- The HI half of a 64-bit register (R100). -/
def hiHalf (v : DWord) : Word := v.extractLsb' 32 32

/-- Replace the LO half. -/
def setLo (v : DWord) (x : Word) : DWord := hiHalf v ++ x

/-- Replace the HI half. -/
def setHi (v : DWord) (x : Word) : DWord := x ++ loHalf v

/-- R121: `HDR_TYPE` as it reads: `B7` in bit 7, `TYPE` in bits [2:0]. -/
def HdrRegs.typeReg (h : HdrRegs) : Word :=
  (0 : BitVec 24) ++ BitVec.ofBool h.b7 ++ (0 : BitVec 4) ++ h.ftype

/-- R103 to R128: the command, status, operand, result, configuration and header registers at offsets below 0x080. -/
def State.readLowReg (s : State) (off : Nat) : Word :=
  match off with
  | 0x000 => 0x50434653
  | 0x004 => s.cmd
  | 0x008 => s.status
  | 0x00C => s.errCode.setWidth 32
  | 0x010 => s.off
  | 0x014 => s.len
  | 0x018 => loHalf s.val
  | 0x01C => hiHalf s.val
  | 0x020 => loHalf s.res0
  | 0x024 => hiHalf s.res0
  | 0x028 => loHalf s.res1
  | 0x02C => hiHalf s.res1
  | 0x030 => s.consumed
  | 0x034 => BitVec.ofNat 32 s.limit.val
  | 0x038 => s.scaleVal
  | 0x040 => loHalf s.scalePb
  | 0x044 => hiHalf s.scalePb
  | 0x048 => loHalf s.angleSc
  | 0x04C => hiHalf s.angleSc
  | 0x050 => s.crcAlg.setWidth 32
  | 0x054 => s.crcVen.setWidth 32
  | 0x058 => s.irqEn.setWidth 32
  | 0x05C => s.irqPend.setWidth 32
  | 0x060 => s.hdr.typeReg
  | 0x064 => s.hdr.ver.setWidth 32
  | 0x068 => s.hdr.flen.setWidth 32
  | 0x06C => s.hdr.id.setWidth 32
  | 0x070 => s.hdr.soc
  | 0x074 => s.hdr.frac.setWidth 32
  | 0x078 => s.hdr.tq.setWidth 32
  | 0x07C => s.hdr.dlen.setWidth 32
  | _ => 0

/-- R129 to R142, R104: the synchronizer registers and `VERSION`, at offsets from 0x080. -/
def State.readHighReg (s : State) (off : Nat) : Word :=
  match off with
  | 0x080 => s.sync.state.code.setWidth 32
  | 0x084 => BitVec.ofNat 32 s.sync.acc.length
  | 0x088 => BitVec.ofNat 32 s.sync.replay.length
  | 0x08C => s.sync.frameType.setWidth 32
  | 0x090 => s.sync.frameLen.setWidth 32
  | 0x094 => s.sync.framePos
  | 0x098 => s.sync.streamPos
  | 0x09C => s.sync.frameCnt
  | 0x0A0 => s.sync.cmdfCnt
  | 0x0A4 => s.sync.resyncCnt
  | 0x0A8 => s.sync.crcErrCnt
  | 0x0AC => s.sync.skipCnt
  | 0x0B0 => s.sync.diagCause.setWidth 32
  | 0x0B4 => s.sync.diagPos
  | 0x0FC => 0x00000001
  | _ => 0

/-- A host read of the register at an offset; a reserved offset reads 0 (R143). -/
def State.readReg (s : State) (off : Nat) : Word :=
  if off < 0x080 then s.readLowReg off else s.readHighReg off

/-- R113: the legal value a write of `LIMIT` stores, `min(v, 65536)`. -/
def legalLimit (v : Word) : Fin (bufSize + 1) := ⟨min v.toNat bufSize, by omega⟩

/-- A host write of a register: the RW registers (R108 to R119), `IRQ_PEND` RW1C (R120), and the storing half of `CMD`
(R105). A read-only or reserved offset ignores the write (R100, R143). -/
def State.writeReg (s : State) (off : Nat) (v : Word) : State :=
  match off with
  | 0x004 => { s with cmd := v }
  | 0x010 => { s with off := v }
  | 0x014 => { s with len := v }
  | 0x018 => { s with val := setLo s.val v }
  | 0x01C => { s with val := setHi s.val v }
  | 0x034 => { s with limit := legalLimit v }
  | 0x038 => { s with scaleVal := v }
  | 0x040 => { s with scalePb := setLo s.scalePb v }
  | 0x044 => { s with scalePb := setHi s.scalePb v }
  | 0x048 => { s with angleSc := setLo s.angleSc v }
  | 0x04C => { s with angleSc := setHi s.angleSc v }
  | 0x050 => { s with crcAlg := v.setWidth 8 }
  | 0x054 => { s with crcVen := v.setWidth 8 }
  | 0x058 => { s with irqEn := v.setWidth 3 }
  | 0x05C => { s with irqPend := s.irqPend &&& ~~~(v.setWidth 3) }
  | _ => s

/-- R208: what a legal window read of a width returns, from the bytes at offset `k` of a space. -/
def State.windowRead (s : State) (sp : Space) (k : Nat) (w : Width) : Word :=
  match w with
  | .w8 => (s.spaceByte sp k).setWidth 32
  | _ => BitVec.ofNat 32 (be (s.memRead sp k 4))

/-- R208: what a legal `BUF` window write of a width stores, from offset `k` on. -/
def windowBytes (w : Width) (v : DWord) : List Byte :=
  match w with
  | .w8 => beBytes 1 v
  | _ => beBytes 4 v

/-- A host read at an aperture offset: its data, or `none` for a bus error (R204, R209). -/
def State.busRead (s : State) (off : Nat) (w : Width) : Option Word :=
  match regionOf off with
  | .registers r => if registerLegal r w then some (s.readReg r) else none
  | .bufWindow k => if windowLegal k w then some (s.windowRead .buf k w) else none
  | .accWindow k => if windowLegal k w then some (s.windowRead .acc k w) else none
  | .unmapped => none

/-- A host write at an aperture offset: the new state, or `none` for a bus error (R204, R209: "every write" of the `ACC`
window is one). -/
def State.busWrite (s : State) (off : Nat) (w : Width) (v : DWord) : Option State :=
  match regionOf off with
  | .registers r => if registerLegal r w then some (s.writeReg r (loHalf v)) else none
  | .bufWindow k =>
    if windowLegal k w then some { s with buf := Memory.storeBytes s.buf k (windowBytes w v) } else none
  | .accWindow _ => none
  | .unmapped => none

/-- R105: the access that runs a command, a 32-bit write at offset 0x004. -/
def isCommandWrite (off : Nat) (w : Width) : Bool := decide (off = 0x004 ∧ w = .w32)

end Sys2Proof.Machine
end

