-- ==== Sys2Proof/Machine/Crc.lean ====
section
/-! DEFINITION. The two checksums (R430 to R433) and the trailer convention (R438). -/

namespace Sys2Proof.Machine

/-- R430: the algorithms, CRC-CCITT (0) and CRC-16 (1). -/
inductive CrcAlg
  | ccitt
  | crc16
  deriving DecidableEq, Repr

/-- R431: one of the 8 steps of a byte: "if c[15] = 1: c <- ((c << 1) XOR 0x1021) mod 2^16, else: c <- (c << 1) mod
2^16". -/
def ccittBit (c : BitVec 16) : BitVec 16 :=
  if c.getLsbD 15 then (c <<< 1) ^^^ 0x1021 else c <<< 1

/-- R432: one of the 8 steps of a byte: "if c[0] = 1: c <- (c >> 1) XOR 0xA001, else: c <- c >> 1". -/
def crc16Bit (c : BitVec 16) : BitVec 16 :=
  if c.getLsbD 0 then (c >>> 1) ^^^ 0xA001 else c >>> 1

/-- "repeat 8 times". -/
def eightTimes (f : BitVec 16 → BitVec 16) (c : BitVec 16) : BitVec 16 := f (f (f (f (f (f (f (f c)))))))

/-- R431: the body of the loop over the bytes. -/
def ccittByte (c : BitVec 16) (b : Byte) : BitVec 16 :=
  eightTimes ccittBit (c ^^^ (b.setWidth 16 <<< 8))

/-- R432: the body of the loop over the bytes. -/
def crc16Byte (c : BitVec 16) (b : Byte) : BitVec 16 :=
  eightTimes crc16Bit (c ^^^ b.setWidth 16)

/-- R431: `crc_ccitt(bytes)`. -/
def crcCcitt (bs : List Byte) : BitVec 16 := bs.foldl ccittByte 0xFFFF

/-- R432: `crc_16(bytes)` under a `CRC16_CFG`. -/
def crc16 (cfg : Crc16Cfg) (bs : List Byte) : BitVec 16 := bs.foldl crc16Byte cfg.init ^^^ cfg.xorout

/-- R430: `crc(alg, bytes)`. -/
def crc (cfg : Crc16Cfg) : CrcAlg → List Byte → BitVec 16
  | .ccitt, bs => crcCcitt bs
  | .crc16, bs => crc16 cfg bs

/-- R117, R430: the algorithm a bit of `CRC_ALG` selects. -/
def algOfBit (b : Bool) : CrcAlg := if b then .crc16 else .ccitt

/-- R438: the checksum of a frame image, over every byte but the last two. -/
def bodyCrc (cfg : Crc16Cfg) (g : CrcAlg) (frame : List Byte) : BitVec 16 :=
  crc cfg g (frame.take (frame.length - 2))

/-- R438: the trailer of a frame image, its last two bytes, most significant first. -/
def trailer (frame : List Byte) : BitVec 16 := BitVec.ofNat 16 (be (frame.drop (frame.length - 2)))

end Sys2Proof.Machine
end

