-- ==== Sys2Proof/Machine/Checksum.lean ====
section
/-! DEFINITION. The checksum commands (R434 to R437). -/

namespace Sys2Proof.Machine

/-- R434, R435: the checksum of the range `OFF`, `LEN`. -/
def performCrc (g : CrcAlg) (sp : Space) (s : State) : Except CmdError State :=
  match s.operand sp s.len.toNat with
  | .error e => .error e
  | .ok bs => .ok (s.withResult ((crc s.cfg.crc16 g bs).setWidth 64) s.len)

/-- R436, R437: check the trailer of the frame image at `OFF`, `LEN`. -/
def performChk (g : CrcAlg) (sp : Space) (s : State) : Except CmdError State :=
  if s.len.toNat < 2 then .error .bufferTooShort
  else
    match s.operand sp s.len.toNat with
    | .error e => .error e
    | .ok f =>
      if bodyCrc s.cfg.crc16 g f ≠ trailer f then .error .checksumMismatch
      else .ok (s.withResults ((bodyCrc s.cfg.crc16 g f).setWidth 64) ((trailer f).setWidth 64) s.len)

/-- R434: CRCCCITT. -/
def execCrcccitt (sp : Space) (s : State) : Host.Outcome State Fault Refusal := finish s (performCrc .ccitt sp s)

/-- R435: CRC16. -/
def execCrc16 (sp : Space) (s : State) : Host.Outcome State Fault Refusal := finish s (performCrc .crc16 sp s)

/-- R436: CHKCCITT. -/
def execChkccitt (sp : Space) (s : State) : Host.Outcome State Fault Refusal := finish s (performChk .ccitt sp s)

/-- R437: CHK16. -/
def execChk16 (sp : Space) (s : State) : Host.Outcome State Fault Refusal := finish s (performChk .crc16 sp s)

end Sys2Proof.Machine
end

