-- ==== Sys2Proof/Machine/Control.lean ====
section
/-! DEFINITION. The control command NOP (R405). -/

namespace Sys2Proof.Machine

/-- R405: NOP, `perform_NOP(w): return OK`. -/
def execNop (s : State) : Host.Outcome State Fault Refusal := finish s (.ok s)

end Sys2Proof.Machine
end

