-- ==== Sys2Proof/Machine/Encoder.lean ====
section
/-! DEFINITION. The big-endian integer encoder (R420 to R427). -/

namespace Sys2Proof.Machine

/-- R420: `perform_WR(w, n)`: the low `8n` bits of `VAL` into `BUF` at `OFF`. -/
def performWrite (n : Nat) (s : State) : Except CmdError State :=
  if s.inBounds .buf s.off.toNat n then .ok (s.withStored s.off.toNat n s.val)
  else .error .bufferTooShort

/-- R421: WRU8. -/
def execWru8 (s : State) : Host.Outcome State Fault Refusal := finish s (performWrite 1 s)

/-- R422: WRU16. -/
def execWru16 (s : State) : Host.Outcome State Fault Refusal := finish s (performWrite 2 s)

/-- R423: WRU24. -/
def execWru24 (s : State) : Host.Outcome State Fault Refusal := finish s (performWrite 3 s)

/-- R424: WRU32. -/
def execWru32 (s : State) : Host.Outcome State Fault Refusal := finish s (performWrite 4 s)

/-- R425: WRI16. -/
def execWri16 (s : State) : Host.Outcome State Fault Refusal := finish s (performWrite 2 s)

/-- R426: WRF32, no conversion. -/
def execWrf32 (s : State) : Host.Outcome State Fault Refusal := finish s (performWrite 4 s)

/-- R427: WRF64. -/
def execWrf64 (s : State) : Host.Outcome State Fault Refusal := finish s (performWrite 8 s)

end Sys2Proof.Machine
end

