-- ==== Sys2Proof/Machine/Extractor.lean ====
section
/-! DEFINITION. The big-endian field extractor (R410 to R417). -/

namespace Sys2Proof.Machine

/-- R410: `perform_RD(w, n, ext)`. -/
def performRead (sp : Space) (n : Nat) (ext : Nat → DWord) (s : State) : Except CmdError State :=
  match s.operand sp n with
  | .error e => .error e
  | .ok bs => .ok (s.withResult (ext (be bs)) (BitVec.ofNat 32 n))

/-- R411: RDU8. -/
def execRdu8 (sp : Space) (s : State) : Host.Outcome State Fault Refusal := finish s (performRead sp 1 zext64 s)

/-- R412: RDU16. -/
def execRdu16 (sp : Space) (s : State) : Host.Outcome State Fault Refusal := finish s (performRead sp 2 zext64 s)

/-- R413: RDU24. -/
def execRdu24 (sp : Space) (s : State) : Host.Outcome State Fault Refusal := finish s (performRead sp 3 zext64 s)

/-- R414: RDU32. -/
def execRdu32 (sp : Space) (s : State) : Host.Outcome State Fault Refusal := finish s (performRead sp 4 zext64 s)

/-- R415: RDI16. -/
def execRdi16 (sp : Space) (s : State) : Host.Outcome State Fault Refusal := finish s (performRead sp 2 sext16 s)

/-- R416: RDF32, the pattern, not converted. -/
def execRdf32 (sp : Space) (s : State) : Host.Outcome State Fault Refusal := finish s (performRead sp 4 zext64 s)

/-- R417: RDF64. -/
def execRdf64 (sp : Space) (s : State) : Host.Outcome State Fault Refusal := finish s (performRead sp 8 zext64 s)

end Sys2Proof.Machine
end

