-- ==== Sys2Proof/Machine/Header.lean ====
section
/-! DEFINITION. The common frame header: its fields (R440, R441) and the plausibility check that HDRPARSE and the
synchronizer share (R443). -/

namespace Sys2Proof.Machine

/-- R441: the frame-type code, bits [6:4] of byte 1. -/
def typeCode (b1 : Byte) : BitVec 3 := b1.extractLsb' 4 3

/-- R441: the version, bits [3:0] of byte 1. -/
def versionCode (b1 : Byte) : BitVec 4 := b1.extractLsb' 0 4

/-- R440: `frameLength`, bytes 2 and 3 of a header. -/
def declaredLen (h : List Byte) : Nat := be (slice h 2 2)

/-- R443: `hdr_check(b1, fl)`; `none` is OK. -/
def hdrCheck (b1 : Byte) (fl : Nat) : Option CmdError :=
  if typeCode b1 = 6 ∨ typeCode b1 = 7 ∨ versionMax < (versionCode b1).toNat then
    some .invalidFrameTypeOrVersion
  else if fl < minFrameLen then some .frameLengthTooShort
  else none

/-- R446: the header registers' values from the 14 bytes of a header. -/
def headerFields (h : List Byte) : HdrRegs where
  b7 := (h.getD 1 0).getLsbD 7
  ftype := typeCode (h.getD 1 0)
  ver := versionCode (h.getD 1 0)
  flen := BitVec.ofNat 16 (declaredLen h)
  id := BitVec.ofNat 16 (be (slice h 4 2))
  soc := BitVec.ofNat 32 (be (slice h 6 4))
  tq := h.getD 10 0
  frac := BitVec.ofNat 24 (be (slice h 11 3))
  dlen := BitVec.ofNat 16 (declaredLen h - 16)

end Sys2Proof.Machine
end

