-- ==== Sys2Proof/Machine/FrameHeader.lean ====
section
/-! DEFINITION. The header commands HDRPARSE (R446) and SETDLEN (R447). -/

namespace Sys2Proof.Machine

/-- R446: `perform_HDRPARSE`, with its checks in the order that rule lists. -/
def performHdrparse (sp : Space) (s : State) : Except CmdError State :=
  match s.operand sp headerLen with
  | .error e => .error e
  | .ok h =>
    if h.getD 0 0 ≠ syncByte then .error .syncByteMismatch
    else
      match hdrCheck (h.getD 1 0) (declaredLen h) with
      | some e => .error e
      | none =>
        if s.inBounds sp s.off.toNat (declaredLen h) then .ok (s.withHeader (headerFields h) 14)
        else .error .bufferTooShort

/-- R447: `perform_SETDLEN`. -/
def performSetdlen (s : State) : Except CmdError State :=
  if maxDataLen < s.val.toNat then .error .dataLengthOverflow
  else .ok (s.withDataLength s.val.toNat)

/-- R446: HDRPARSE. -/
def execHdrparse (sp : Space) (s : State) : Host.Outcome State Fault Refusal := finish s (performHdrparse sp s)

/-- R447: SETDLEN. -/
def execSetdlen (s : State) : Host.Outcome State Fault Refusal := finish s (performSetdlen s)

end Sys2Proof.Machine
end

