-- ==== Sys2Proof/Machine/Float.lean ====
section
/-! DEFINITION. The arithmetic of the numeric decoder on bit patterns (R450 to R454): widening of binary32, integers to
binary64, and binary64 multiplication, rounded to nearest, ties to even. -/

namespace Sys2Proof.Machine

/-- R452, D22: the canonical quiet NaN. -/
def canonicalNaN : DWord := 0x7FF8000000000000

/-- The magnitude bits of an infinity: exponent 0x7FF, fraction 0. -/
def infMag : Nat := 0x7FF0000000000000

/-- A binary64 pattern from a sign and its low 63 bits. -/
def pack64 (sign : Bool) (mag : Nat) : DWord := BitVec.ofNat 64 (sign.toNat * 2 ^ 63 + mag)

/-- The sign bit of a binary64 pattern. -/
def sign64 (a : DWord) : Bool := a.getLsbD 63

/-- The low 63 bits of a binary64 pattern: exponent and fraction. -/
def mag64 (a : DWord) : Nat := a.toNat % 2 ^ 63

/-- A NaN: exponent 0x7FF and a fraction that is not 0. -/
def isNaN64 (a : DWord) : Bool := decide (infMag < mag64 a)

/-- An infinity of either sign. -/
def isInf64 (a : DWord) : Bool := decide (mag64 a = infMag)

/-- A zero of either sign. -/
def isZero64 (a : DWord) : Bool := decide (mag64 a = 0)

/-- The exponent of a finite magnitude as a scale `x`: the magnitude is `significand * 2^(x - 1075)`. A subnormal has the
scale of the smallest normal, 1. -/
def scaleOf (mag : Nat) : Nat := max (mag / 2 ^ 52) 1

/-- The significand of a finite magnitude, with the implicit bit of a normal one. -/
def significandOf (mag : Nat) : Nat :=
  if mag / 2 ^ 52 = 0 then mag % 2 ^ 52 else 2 ^ 52 + mag % 2 ^ 52

/-- `m / 2^k` rounded to the nearest integer, ties to the even one. -/
def roundShift (m k : Nat) : Nat :=
  let q := m / 2 ^ k
  let r := m % 2 ^ k
  if 2 ^ k < 2 * r ∨ (2 * r = 2 ^ k ∧ q % 2 = 1) then q + 1 else q

/-- The magnitude bits nearest to `m * 2^(e - 2150)` for `m > 0`, ties to even, an infinity where that is too large (R450,
R452). The result's last place is `2^(t - 1074)`: `t` is chosen so that at most 53 bits of `m` stay, and is 0 in the
subnormal range. A significand that rounds up to `2^53` carries into the exponent, as it should. -/
def roundMag (m e : Nat) : Nat :=
  let t := e + (m.log2 + 1) - 1129
  let sig := if e ≤ t + 1076 then roundShift m (t + 1076 - e) else m * 2 ^ (e - (t + 1076))
  min (t * 2 ^ 52 + sig) infMag

/-- R452: `f64mul(a, b)`. -/
def f64mul (a b : DWord) : DWord :=
  if isNaN64 a || isNaN64 b || (isZero64 a && isInf64 b) || (isInf64 a && isZero64 b) then canonicalNaN
  else
    let sign := sign64 a != sign64 b
    if isInf64 a || isInf64 b then pack64 sign infMag
    else if isZero64 a || isZero64 b then pack64 sign 0
    else pack64 sign (roundMag (significandOf (mag64 a) * significandOf (mag64 b)) (scaleOf (mag64 a) + scaleOf (mag64 b)))

/-- The magnitude bits of the binary64 value `n * 2^(x - 1075)` for `0 < n < 2^53`, when it is a normal number: `n` is
shifted up to 53 bits, which is exact. -/
def normalMag (n x : Nat) : Nat :=
  (x + n.log2 - 52) * 2 ^ 52 + (n * 2 ^ (52 - n.log2) - 2 ^ 52)

/-- R453: `int_to_f64(i)`, exact for every `|i| < 2^53`; the block converts only i16 and u32 values. -/
def intToF64 (i : Int) : DWord :=
  if i.natAbs = 0 then pack64 false 0 else pack64 (decide (i < 0)) (normalMag i.natAbs 1075)

/-- R451: `cvt_f32_f64(x)`: a NaN keeps sign and payload and is made quiet; every other value is exact. -/
def cvtF32F64 (x : BitVec 32) : DWord :=
  let s := x.getLsbD 31
  let e := (x.extractLsb' 23 8).toNat
  let m := (x.extractLsb' 0 23).toNat
  if e = 0xFF then
    if m ≠ 0 then BitVec.ofBool s ++ (0x7FF : BitVec 11) ++ (1 : BitVec 1) ++ x.extractLsb' 0 22 ++ (0 : BitVec 29)
    else pack64 s infMag
  else if e = 0 then
    if m = 0 then pack64 s 0 else pack64 s (normalMag m (1075 - 149))
  else pack64 s (normalMag (2 ^ 23 + m) (1075 + e - 150))

/-- R454: `factor = f64mul(int_to_f64(reg[SCALEVAL]), reg[SCALE_PB])`. -/
def State.factor (s : State) : DWord := f64mul (intToF64 s.scaleVal.toNat) s.scalePb

/-- R454: `fixval(r)`. -/
def State.fixval (s : State) (r : Nat) : DWord := f64mul (intToF64 (toSigned16 r)) s.factor

/-- R454: `angval(r)`. -/
def State.angval (s : State) (r : Nat) : DWord := f64mul (intToF64 (toSigned16 r)) s.angleSc

end Sys2Proof.Machine
end

