-- ==== Sys2Proof/Machine/Numeric.lean ====
section
/-! DEFINITION. The numeric decoder commands DECF32, DECFIX and DECPH (R455 to R457). -/

namespace Sys2Proof.Machine

/-- R457: the bytes of a phasor, 4 fixed or 8 float. -/
def phasorLen : PhasorFormat → Nat
  | .fixed => 4
  | .float => 8

/-- R457: `RES0` and `RES1` from a phasor's bytes. -/
def phasorValues (s : State) (f : PhasorFormat) (p : PhasorCoords) (b : List Byte) : DWord × DWord :=
  match f, p with
  | .float, _ =>
    (cvtF32F64 (BitVec.ofNat 32 (be (slice b 0 4))), cvtF32F64 (BitVec.ofNat 32 (be (slice b 4 4))))
  | .fixed, .rect => (s.fixval (be (slice b 0 2)), s.fixval (be (slice b 2 2)))
  | .fixed, .polar => (s.fixval (be (slice b 0 2)), s.angval (be (slice b 2 2)))

/-- R455: `perform_DECF32`. -/
def performDecf32 (sp : Space) (s : State) : Except CmdError State :=
  match s.operand sp 4 with
  | .error e => .error e
  | .ok b => .ok (s.withResult (cvtF32F64 (BitVec.ofNat 32 (be b))) 4)

/-- R456: `perform_DECFIX`. -/
def performDecfix (sp : Space) (s : State) : Except CmdError State :=
  match s.operand sp 2 with
  | .error e => .error e
  | .ok b => .ok (s.withResult (s.fixval (be b)) 2)

/-- R457: `perform_DECPH`. -/
def performDecph (sp : Space) (f : PhasorFormat) (p : PhasorCoords) (s : State) : Except CmdError State :=
  match s.operand sp (phasorLen f) with
  | .error e => .error e
  | .ok b => .ok (s.withResults (phasorValues s f p b).1 (phasorValues s f p b).2 (BitVec.ofNat 32 (phasorLen f)))

/-- R455: DECF32. -/
def execDecf32 (sp : Space) (s : State) : Host.Outcome State Fault Refusal := finish s (performDecf32 sp s)

/-- R456: DECFIX. -/
def execDecfix (sp : Space) (s : State) : Host.Outcome State Fault Refusal := finish s (performDecfix sp s)

/-- R457: DECPH. -/
def execDecph (sp : Space) (f : PhasorFormat) (p : PhasorCoords) (s : State) : Host.Outcome State Fault Refusal :=
  finish s (performDecph sp f p s)

end Sys2Proof.Machine
end

