-- ==== Sys2Proof/Machine/Synchronizer.lean ====
section
/-! DEFINITION. The frame synchronizer: its per-byte step (R461 to R468), and the commands FEED, FRAMEACK and SYNCRESET
(R472 to R474). -/

namespace Sys2Proof.Machine

/-- R461, R469: `pos0()`, the stream position of `ACC[0]`, mod 2^32. -/
def pos0 (y : Sync) : Word :=
  y.streamPos - BitVec.ofNat 32 y.acc.length - BitVec.ofNat 32 y.replay.length

/-- R468: `resync(cause)`: the candidate less its sync byte goes in front of `REPLAY`. -/
def resync (cause : CmdError) (r : SyncRun) : SyncRun where
  sync :=
    { r.sync with
      resyncCnt := r.sync.resyncCnt + 1
      diagCause := cause.code
      diagPos := pos0 r.sync
      replay := r.sync.acc.tail ++ r.sync.replay
      acc := []
      state := .seeking }
  pend := setPending r.pend 1

/-- R465: `check_header()`. -/
def checkHeader (r : SyncRun) : SyncRun :=
  match hdrCheck (r.sync.acc.getD 1 0) (declaredLen r.sync.acc) with
  | some e => resync e r
  | none =>
    { r with
      sync :=
        { r.sync with
          frameType := typeCode (r.sync.acc.getD 1 0)
          frameLen := BitVec.ofNat 16 (declaredLen r.sync.acc)
          state := .bodyBuf } }

/-- R467: `dispatch()`. -/
def dispatchFrame (r : SyncRun) : SyncRun where
  sync :=
    { r.sync with
      state := .dispatch
      frameCnt := r.sync.frameCnt + 1
      cmdfCnt := if r.sync.frameType = 4 then r.sync.cmdfCnt + 1 else r.sync.cmdfCnt
      framePos := pos0 r.sync }
  pend := setPending r.pend 0

/-- R466: the complete candidate, `ACC[0 .. L-1]`, passes the check its type asks for: none when `CRC_VEN[t] = 0`. -/
def frameAccepted (e : SyncEnv) (y : Sync) : Bool :=
  let frame := y.acc.take y.frameLen.toNat
  !e.crcVen.getLsbD y.frameType.toNat ||
    bodyCrc e.crc16 (algOfBit (e.crcAlg.getLsbD y.frameType.toNat)) frame == trailer frame

/-- R466: `complete_frame()`. -/
def completeFrame (e : SyncEnv) (r : SyncRun) : SyncRun :=
  if frameAccepted e r.sync then dispatchFrame r
  else resync .checksumMismatch { r with sync := { r.sync with crcErrCnt := r.sync.crcErrCnt + 1 } }

/-- R461: `step(b)`. It is "never called in DISPATCH", and does nothing there. -/
def syncStep (e : SyncEnv) (b : Byte) (r : SyncRun) : SyncRun :=
  match r.sync.state with
  | .seeking =>
    if b = syncByte then { r with sync := { r.sync with acc := [b], state := .hdrBuf } }
    else { r with sync := { r.sync with skipCnt := r.sync.skipCnt + 1 } }
  | .hdrBuf =>
    let r' := { r with sync := { r.sync with acc := r.sync.acc ++ [b] } }
    if r.sync.acc.length + 1 = headerLen then checkHeader r' else r'
  | .bodyBuf =>
    let r' := { r with sync := { r.sync with acc := r.sync.acc ++ [b] } }
    if r.sync.acc.length + 1 = r.sync.frameLen.toNat then completeFrame e r' else r'
  | .dispatch => r

/-- R472: one turn of FEED's loop; `none` is "exit loop". -/
def feedTurn (e : SyncEnv) (f : FeedRun) : Option FeedRun :=
  match f.run.sync.state with
  | .dispatch => none
  | _ =>
    match f.run.sync.replay with
    | b :: rest => some { f with run := syncStep e b { f.run with sync := { f.run.sync with replay := rest } } }
    | [] =>
      match f.input with
      | b :: rest =>
        some {
          run := syncStep e b { f.run with sync := { f.run.sync with streamPos := f.run.sync.streamPos + 1 } }
          input := rest
          taken := f.taken + 1 }
      | [] => none

/-- R472: FEED's loop, for at most `fuel` turns. -/
def feedLoop (e : SyncEnv) : Nat → FeedRun → FeedRun
  | 0, f => f
  | fuel + 1, f =>
    match feedTurn e f with
    | none => f
    | some f' => feedLoop e fuel f'

/-- More turns than FEED's loop can take from `f` (R471: "every FEED terminates"; `feedFuel_suffices`). -/
def feedFuel (f : FeedRun) : Nat :=
  let t := f.run.sync.acc.length + f.run.sync.replay.length + f.input.length
  (t + 1) * (t + 1)

/-- What the synchronizer reads of a state (R460, R717: the values at the time of the command). -/
def State.syncEnv (s : State) : SyncEnv where
  crcAlg := s.crcAlg
  crcVen := s.crcVen
  crc16 := s.cfg.crc16

/-- R472: the start of FEED's loop on a chunk. -/
def State.feedStart (s : State) (input : List Byte) : FeedRun where
  run := { sync := s.sync, pend := s.irqPend }
  input := input
  taken := 0

/-- R472: FEED's loop on a chunk, to its end. -/
def State.feedEnd (s : State) (input : List Byte) : FeedRun :=
  feedLoop s.syncEnv (feedFuel (s.feedStart input)) (s.feedStart input)

/-- R472: `perform_FEED`. The chunk is `BUF[OFF .. OFF+LEN-1]`, in rising offsets. -/
def performFeed (s : State) : Except CmdError State :=
  match s.operand .buf s.len.toNat with
  | .error e => .error e
  | .ok bs => .ok (s.withFeed (s.feedEnd bs))

/-- R473: `perform_FRAMEACK`. -/
def performFrameack (s : State) : Except CmdError State :=
  match s.sync.state with
  | .dispatch => .ok (s.withSync { s.sync with acc := [], state := .seeking })
  | _ => .error .syncStateError

/-- R474: `perform_SYNCRESET`. -/
def performSyncreset (s : State) : Except CmdError State := .ok (s.withSync Sync.reset)

/-- R472: FEED. -/
def execFeed (s : State) : Host.Outcome State Fault Refusal := finish s (performFeed s)

/-- R473: FRAMEACK. -/
def execFrameack (s : State) : Host.Outcome State Fault Refusal := finish s (performFrameack s)

/-- R474: SYNCRESET. -/
def execSyncreset (s : State) : Host.Outcome State Fault Refusal := finish s (performSyncreset s)

end Sys2Proof.Machine
end

