-- ==== Sys2Proof/Machine/Dispatch.lean ====
section
/-! DEFINITION. One arm per constructor of `Instr`: each is one call of that command's meaning. -/

namespace Sys2Proof.Machine

def exec (i : Instr) (s : State) : Host.Outcome State Fault Refusal :=
  match i with
  | .nop => Sys2Proof.Machine.execNop s
  | .rdu8 sp => Sys2Proof.Machine.execRdu8 sp s
  | .rdu16 sp => Sys2Proof.Machine.execRdu16 sp s
  | .rdu24 sp => Sys2Proof.Machine.execRdu24 sp s
  | .rdu32 sp => Sys2Proof.Machine.execRdu32 sp s
  | .rdi16 sp => Sys2Proof.Machine.execRdi16 sp s
  | .rdf32 sp => Sys2Proof.Machine.execRdf32 sp s
  | .rdf64 sp => Sys2Proof.Machine.execRdf64 sp s
  | .wru8 => Sys2Proof.Machine.execWru8 s
  | .wru16 => Sys2Proof.Machine.execWru16 s
  | .wru24 => Sys2Proof.Machine.execWru24 s
  | .wru32 => Sys2Proof.Machine.execWru32 s
  | .wri16 => Sys2Proof.Machine.execWri16 s
  | .wrf32 => Sys2Proof.Machine.execWrf32 s
  | .wrf64 => Sys2Proof.Machine.execWrf64 s
  | .crcccitt sp => Sys2Proof.Machine.execCrcccitt sp s
  | .crc16 sp => Sys2Proof.Machine.execCrc16 sp s
  | .chkccitt sp => Sys2Proof.Machine.execChkccitt sp s
  | .chk16 sp => Sys2Proof.Machine.execChk16 sp s
  | .hdrparse sp => Sys2Proof.Machine.execHdrparse sp s
  | .setdlen => Sys2Proof.Machine.execSetdlen s
  | .decf32 sp => Sys2Proof.Machine.execDecf32 sp s
  | .decfix sp => Sys2Proof.Machine.execDecfix sp s
  | .decph sp f p => Sys2Proof.Machine.execDecph sp f p s
  | .feed => Sys2Proof.Machine.execFeed s
  | .frameack => Sys2Proof.Machine.execFrameack s
  | .syncreset => Sys2Proof.Machine.execSyncreset s

end Sys2Proof.Machine
end

