-- ==== Sys2Proof/Machine/Execute.lean ====
section
/-! DEFINITION. What a host event does: a command word written to `CMD` (R400, R401), any other host access (R204 to
R209), and the reset input (R700). -/

namespace Sys2Proof.Machine

/-- R400, R401: `reg[CMD] <- w`, then `execute(w)`: the command the word decodes to, or IllegalCommand (R304, R607). -/
def execute (w : Word) (s : State) : Host.Outcome State Fault Refusal :=
  match decode w with
  | .ok i => exec i (s.writeReg 0x004 w)
  | .error _ => finish (s.writeReg 0x004 w) (.error .illegalCommand)

/-- A host access at an aperture offset. -/
def hostAccess (off : Nat) (w : Width) (k : AccessKind) (s : State) : Host.Outcome State Fault Refusal :=
  match k with
  | .read =>
    match s.busRead off w with
    | some v => .next (s.withResp (.data v))
    | none => .next (s.withResp .busError)
  | .write v =>
    if isCommandWrite off w then execute (loHalf v) (s.withResp .written)
    else
      match s.busWrite off w v with
      | some t => .next (t.withResp .written)
      | none => .next (s.withResp .busError)

/-- R700: every register takes its reset value, `REPLAY` is empty and the contents of `BUF` are unspecified again (a new
epoch of the free value). The build and the host's further events stay. -/
def hardwareReset (s : State) : State :=
  { State.reset with cfg := s.cfg, epoch := s.epoch + 1, host := s.host }

/-- One event of the outside world, the state's queue already past it. -/
def runEvent (ev : HostEvent) (s : State) : Host.Outcome State Fault Refusal :=
  match ev with
  | .hardwareReset => .next (hardwareReset s)
  | .access a =>
    match apertureOffset s.cfg a.addr with
    | some off => hostAccess off a.width a.kind s
    | none => .next (s.withResp .notSelected)

/-- R12: the host's next event, or none: the engine "never steps on its own", and an idle block stays as it is. -/
def runNext (s : State) : Host.Outcome State Fault Refusal :=
  match s.host with
  | [] => .next s
  | ev :: rest => runEvent ev { s with host := rest }

/-- The host event that writes a command word to `CMD` (R105). -/
def commandEvent (cfg : Config) (w : Nat) : HostEvent :=
  .access { addr := cfg.blockBase + 0x004, width := .w32, kind := .write (BitVec.ofNat 64 w) }

end Sys2Proof.Machine
end

