-- ==== Sys2Proof/Machine/Step.lean ====
section
/-! DEFINITION. One step: the next event of the host. The block "fetches no instructions" (R102): "the sequence of commands
is the sequence of host writes to CMD", so the place a command comes from is the front of the host's queue. -/

namespace Sys2Proof.Machine

/-- One step of the machine. -/
def step (s : State) : Host.Outcome State Fault Refusal := runNext s

/-- The state in which the host's next event is the write of the table word `w` of `nbits` bits to `CMD`. -/
def State.withFetchWord (s : State) (nbits w : Nat) : State :=
  { s with host := commandEvent s.cfg (w % 2 ^ nbits) :: s.host }

end Sys2Proof.Machine
end

