-- ==== Sys2Proof/Machine/HostProgram.lean ====
section
/-! DEFINITION. The statements of the host syntax that reach the block (R307), as the host accesses they stand for, and the
pseudo-instructions (R308). Labels, branches and host variables "are host software and issue no command" (R307). -/

namespace Sys2Proof.Machine

/-- The registers by name (10_state.md). -/
inductive RegName
  | id | version | cmd | status | errcode | off | len | valLo | valHi | res0Lo | res0Hi | res1Lo | res1Hi
  | consumed | limit | scaleval | scalePbLo | scalePbHi | angleScLo | angleScHi | crcAlg | crcVen | irqEn | irqPend
  | hdrType | hdrVer | hdrFlen | hdrId | hdrSoc | hdrFrac | hdrTq | hdrDlen
  | syncState | accCnt | replayCnt | frameType | frameLen | framePos | streamPos
  | frameCnt | cmdfCnt | resyncCnt | crcerrCnt | skipCnt | diagCause | diagPos
  deriving DecidableEq, Repr

/-- R103 to R142: a register's offset. -/
def RegName.offset : RegName → Nat
  | .id => 0x000
  | .cmd => 0x004
  | .status => 0x008
  | .errcode => 0x00C
  | .off => 0x010
  | .len => 0x014
  | .valLo => 0x018
  | .valHi => 0x01C
  | .res0Lo => 0x020
  | .res0Hi => 0x024
  | .res1Lo => 0x028
  | .res1Hi => 0x02C
  | .consumed => 0x030
  | .limit => 0x034
  | .scaleval => 0x038
  | .scalePbLo => 0x040
  | .scalePbHi => 0x044
  | .angleScLo => 0x048
  | .angleScHi => 0x04C
  | .crcAlg => 0x050
  | .crcVen => 0x054
  | .irqEn => 0x058
  | .irqPend => 0x05C
  | .hdrType => 0x060
  | .hdrVer => 0x064
  | .hdrFlen => 0x068
  | .hdrId => 0x06C
  | .hdrSoc => 0x070
  | .hdrFrac => 0x074
  | .hdrTq => 0x078
  | .hdrDlen => 0x07C
  | .syncState => 0x080
  | .accCnt => 0x084
  | .replayCnt => 0x088
  | .frameType => 0x08C
  | .frameLen => 0x090
  | .framePos => 0x094
  | .streamPos => 0x098
  | .frameCnt => 0x09C
  | .cmdfCnt => 0x0A0
  | .resyncCnt => 0x0A4
  | .crcerrCnt => 0x0A8
  | .skipCnt => 0x0AC
  | .diagCause => 0x0B0
  | .diagPos => 0x0B4
  | .version => 0x0FC

/-- The LO/HI pairs that the host writes (R110, R115, R116). -/
inductive PairName
  | val
  | scalePb
  | angleSc
  deriving DecidableEq, Repr

/-- R100: the `_LO` register of a pair; its `_HI` register is 4 higher. -/
def PairName.lo : PairName → RegName
  | .val => .valLo
  | .scalePb => .scalePbLo
  | .angleSc => .angleScLo

/-- R307: the statements that reach the block. -/
inductive HostStmt
  /-- `MNEM[.mod][.mod] [buf|acc]` -/
  | command (i : Instr)
  /-- `W REG, v` -/
  | write (r : RegName) (v : Word)
  /-- `W64 REG, v` -/
  | write64 (r : PairName) (v : DWord)
  /-- `R REG` -/
  | read (r : RegName)
  /-- `WB k, b0 b1 ...` -/
  | writeBytes (k : Nat) (bs : List Byte)
  /-- `RA k` -/
  | readAcc (k : Nat)
  /-- `RB k` -/
  | readBuf (k : Nat)
  deriving DecidableEq, Repr

/-- A host access at an aperture offset. -/
def accessAt (cfg : Config) (off : Nat) (w : Width) (k : AccessKind) : HostEvent :=
  .access { addr := cfg.blockBase + off, width := w, kind := k }

/-- The 8-bit writes of `WB`, at rising offsets. -/
def byteWrites (cfg : Config) : Nat → List Byte → List HostEvent
  | _, [] => []
  | k, b :: bs => accessAt cfg (0x10000 + k) .w8 (.write (b.setWidth 64)) :: byteWrites cfg (k + 1) bs

/-- R307: the accesses a statement stands for. -/
def HostStmt.events (cfg : Config) : HostStmt → List HostEvent
  | .command i => [commandEvent cfg (encode i).toNat]
  | .write r v => [accessAt cfg r.offset .w32 (.write (v.setWidth 64))]
  | .write64 r v =>
    [accessAt cfg r.lo.offset .w32 (.write ((loHalf v).setWidth 64)),
     accessAt cfg (r.lo.offset + 4) .w32 (.write ((hiHalf v).setWidth 64))]
  | .read r => [accessAt cfg r.offset .w32 .read]
  | .writeBytes k bs => byteWrites cfg k bs
  | .readAcc k => [accessAt cfg (0x20000 + k) .w8 .read]
  | .readBuf k => [accessAt cfg (0x10000 + k) .w8 .read]

/-- R308: the pseudo-instructions. -/
inductive PseudoStmt
  /-- `MNEM [sp], #o` (RD*, HDRPARSE, DECF32, DECFIX, DECPH) -/
  | atOffset (i : Instr) (o : Word)
  /-- `MNEM [sp], #o, #n` (CRC*, CHK*) and `FEED #o, #n` -/
  | atRange (i : Instr) (o n : Word)
  /-- `WRxx #o, #v` -/
  | store (i : Instr) (o : Word) (v : DWord)
  /-- `SETDLEN #d` -/
  | setdlen (d : DWord)
  /-- `SCALE #s, #pb` -/
  | scale (s : Word) (pb : DWord)
  /-- `CLRIRQ` -/
  | clrirq
  deriving DecidableEq, Repr

/-- R308: the expansion of a pseudo-instruction. -/
def PseudoStmt.expand : PseudoStmt → List HostStmt
  | .atOffset i o => [.write .off o, .command i]
  | .atRange i o n => [.write .off o, .write .len n, .command i]
  | .store i o v => [.write .off o, .write64 .val v, .command i]
  | .setdlen d => [.write64 .val d, .command .setdlen]
  | .scale s pb => [.write .scaleval s, .write64 .scalePb pb]
  | .clrirq => [.write .irqPend 0x7]

end Sys2Proof.Machine
end

