-- ==== Sys2Proof/Safety.lean ====
section
/-! DEFINITION. The terms that claims are stated in: the invariant of the block, how a command ends, the runs of FEED's
loop, the exact value of a binary64 magnitude, and a host access put in front of the host's queue. -/

namespace Sys2Proof.Machine

/-! ### The invariant -/

/-- R460, R464, R465: the candidate starts with the sync byte, its header passed the check, and `FRAME_TYPE` and
`FRAME_LEN` are its type and declared length. -/
def Sync.HeaderAccepted (y : Sync) : Prop :=
  y.acc.getD 0 0 = 0xAA ∧
  hdrCheck (y.acc.getD 1 0) (declaredLen y.acc) = none ∧
  y.frameType = typeCode (y.acc.getD 1 0) ∧
  y.frameLen.toNat = declaredLen y.acc

/-- R460: the table of states. -/
def Sync.StateFits (y : Sync) : Prop :=
  match y.state with
  | .seeking => y.acc = []
  | .hdrBuf => 1 ≤ y.acc.length ∧ y.acc.length ≤ 13 ∧ y.acc.getD 0 0 = 0xAA
  | .bodyBuf => 14 ≤ y.acc.length ∧ y.acc.length < y.frameLen.toNat ∧ y.HeaderAccepted
  | .dispatch => 16 ≤ y.acc.length ∧ y.acc.length = y.frameLen.toNat ∧ y.HeaderAccepted

/-- R460, R470, R141: the synchronizer's invariants. -/
structure Sync.Inv (y : Sync) : Prop where
  stateFits : y.StateFits
  bounded : y.acc.length + y.replay.length ≤ 65535
  cause : y.diagCause = 0 ∨ y.diagCause = 3 ∨ y.diagCause = 5 ∨ y.diagCause = 6

/-- R122, R123, R128, R442: what the header registers can hold. -/
structure HdrRegs.Inv (h : HdrRegs) : Prop where
  ftype : h.ftype.toNat ≤ 5
  ver : h.ver.toNat ≤ 3
  lengths : (h.flen = 0 ∧ h.dlen = 0) ∨ (16 ≤ h.flen.toNat ∧ h.dlen.toNat = h.flen.toNat - 16)

/-- The invariant of the block. -/
structure State.Inv (s : State) : Prop where
  buf : Memory.wf s.buf
  sync : s.sync.Inv
  hdr : s.hdr.Inv
  /-- R106, R107: `ERR` is 1 exactly when `ERRCODE` is not 0 -/
  err : s.err = true ↔ s.errCode ≠ 0
  /-- R600: "9 to 255 ... never" -/
  code : s.errCode.toNat ≤ 8

/-! ### How a command ends -/

/-- R402, OK: the command leaves `t`, with `STATUS.ERR` and `ERRCODE` cleared. -/
def Succeeds (i : Instr) (s t : State) : Prop := exec i s = .next { t with err := false, errCode := 0 }

/-- R402, R403: the command raises `e`, and changes nothing but `STATUS.ERR`, `ERRCODE` and `IRQ_PEND[2]`. -/
def Raises (i : Instr) (s : State) (e : CmdError) : Prop :=
  exec i s = .next { s with err := true, errCode := e.code, irqPend := s.irqPend ||| 4 }

/-- R400 to R402: a word that is no command is stored in `CMD` and raises IllegalCommand (code 7), with no other effect. -/
def WordIsIllegal (w : Word) : Prop :=
  ∀ s : State, execute w s = .next { s with cmd := w, err := true, errCode := 7, irqPend := s.irqPend ||| 4 }

/-- The words with the opcode `op` that are commands, each with its command; every other word with that opcode is
illegal. -/
def OpcodeWords (op : BitVec 8) (ws : List (Word × Instr)) : Prop :=
  (∀ p ∈ ws, decode p.1 = .ok p.2) ∧
  ∀ w : Word, w.extractLsb' 0 8 = op → w ∉ ws.map (·.1) → WordIsIllegal w

/-- R206: with the cells `m`, `BUF` holds the bytes `bs` at offsets `OFF`, `OFF + 1`, ..., and every other byte reads as it
does in `s`. -/
def Stores (s : State) (m : Memory) (bs : List Byte) : Prop :=
  ∀ a, ({ s with buf := m } : State).bufByte a =
    if s.off.toNat ≤ a ∧ a < s.off.toNat + bs.length then bs.getD (a - s.off.toNat) 0 else s.bufByte a

/-- R428, "provided no write to those bytes came between": the `n` bytes of `BUF` at `OFF` are in `u` what they were in
`t`, at the same `OFF`, and within `u`'s `LIMIT`. -/
def State.KeepsField (t u : State) (n : Nat) : Prop :=
  u.off = t.off ∧ t.off.toNat + n ≤ u.limit.val ∧ ∀ k < n, u.bufByte (t.off.toNat + k) = t.bufByte (t.off.toNat + k)

/-- `S[OFF + k]`, the `k`-th byte of a command's operand. -/
def State.operandByte (s : State) (sp : Space) (k : Nat) : Byte := s.spaceByte sp (s.off.toNat + k)

/-! ### The runs of FEED's loop -/

/-- R472, the loop of its pseudocode as a relation: from `f` the loop takes bytes, those of `REPLAY` before those of `BUF`,
until it exits at `g`, in DISPATCH or with nothing left to take. -/
inductive FeedReaches (e : SyncEnv) : FeedRun → FeedRun → Prop
  | dispatched (f : FeedRun) (hs : f.run.sync.state = .dispatch) : FeedReaches e f f
  | drained (f : FeedRun) (hs : f.run.sync.state ≠ .dispatch) (hr : f.run.sync.replay = []) (hi : f.input = []) :
    FeedReaches e f f
  | fromReplay (f g : FeedRun) (b : Byte) (rest : List Byte) (hs : f.run.sync.state ≠ .dispatch)
    (hr : f.run.sync.replay = b :: rest)
    (next : FeedReaches e
      { f with run := syncStep e b { f.run with sync := { f.run.sync with replay := rest } } } g) :
    FeedReaches e f g
  | fromBuf (f g : FeedRun) (b : Byte) (rest : List Byte) (hs : f.run.sync.state ≠ .dispatch)
    (hr : f.run.sync.replay = []) (hi : f.input = b :: rest)
    (next : FeedReaches e
      { run := syncStep e b { f.run with sync := { f.run.sync with streamPos := f.run.sync.streamPos + 1 } }
        input := rest
        taken := f.taken + 1 } g) :
    FeedReaches e f g

/-! ### Exact values -/

/-- The value of a finite binary64 magnitude (the low 63 bits of a pattern) in units of `2^-1074`, the smallest subnormal. -/
def units64 (mag : Nat) : Nat :=
  if mag < 2 ^ 52 then mag else (2 ^ 52 + mag % 2 ^ 52) * 2 ^ (mag / 2 ^ 52 - 1)

/-- The value of a finite binary32 magnitude (the low 31 bits of a pattern) in units of `2^-149`. -/
def units32 (mag : Nat) : Nat :=
  if mag < 2 ^ 23 then mag else (2 ^ 23 + mag % 2 ^ 23) * 2 ^ (mag / 2 ^ 23 - 1)

/-- The distance of two naturals. -/
def gap (m n : Nat) : Nat := (m - n) + (n - m)

/-! ### Host accesses -/

/-- A host read at an aperture offset is the next event. -/
def State.hostReads (s : State) (off : Nat) (w : Width) : State :=
  { s with host := accessAt s.cfg off w .read :: s.host }

/-- A host write at an aperture offset is the next event. -/
def State.hostWrites (s : State) (off : Nat) (w : Width) (v : DWord) : State :=
  { s with host := accessAt s.cfg off w (.write v) :: s.host }

/-- A 32-bit host write of `v` at an aperture offset is accepted and leaves the block as in `t`. -/
def WriteLeaves (s : State) (off : Nat) (v : Word) (t : State) : Prop :=
  step (s.hostWrites off .w32 (v.setWidth 64)) = .next { t with resp := .written }

/-- R209, R204: the host reads at an aperture offset that are legal. -/
def LegalRead (off : Nat) (w : Width) : Prop :=
  (off < 0x100 ∧ w = .w32 ∧ off % 4 = 0) ∨
  (0x10000 ≤ off ∧ off < 0x30000 ∧ (w = .w8 ∨ (w = .w32 ∧ off % 4 = 0)))

/-- R209, R204: the host writes at an aperture offset that are legal. -/
def LegalWrite (off : Nat) (w : Width) : Prop :=
  (off < 0x100 ∧ w = .w32 ∧ off % 4 = 0) ∨
  (0x10000 ≤ off ∧ off < 0x20000 ∧ (w = .w8 ∨ (w = .w32 ∧ off % 4 = 0)))

end Sys2Proof.Machine
end

