-- ==== Sys2Proof/Certificates/Slice0/Obligations.lean ====
section
/-! DEFINITION. The statements for the provers. Each formalises rules of spec/; `Succeeds`, `Raises`, `OpcodeWords`,
`Stores` and the other terms are in Sys2Proof/Safety.lean. A `Succeeds` names the whole next state, so it says the
command's result, that it completes, and its frame. -/

open Sys2Proof Sys2Proof.Machine

/-! ### Encoding -/

/-- R303, R304 and R300 together: a word decodes to an instruction exactly when it is that instruction's word. -/
def Obligations.DecodeInvertsEncode : Prop :=
  ∀ (w : Word) (i : Instr), decode w = .ok i ↔ w = encode i

/-- R303, last sentence: "At most one row matches any word." -/
def Obligations.OpcodeRowsAreDisjoint : Prop :=
  opcodeMap.Pairwise (fun r r' => ∀ w : Word, ¬ (r.selects w = true ∧ r'.selects w = true))

/-- R607: exactly the words with a listed opcode, no unused field set and no reserved bit set are commands; any other is
stored in `CMD` and reports IllegalCommand, and nothing is executed. -/
def Obligations.IllegalWordsReportAndDoNothing : Prop :=
  ∀ w : Word,
    ((splitWord w).wellFormed = true → ∃ i, decode w = .ok i) ∧
    ((splitWord w).wellFormed = false → WordIsIllegal w)

/-- R303: words written out from the table, one or more of every family. -/
def Obligations.SampleWordsDecode : Prop :=
  decode 0b00000000000000000000000000000000 = .ok .nop ∧
  decode 0b00000000000000000000000100010001 = .ok (.rdu16 .acc) ∧
  decode 0b00000000000000000000000000100110 = .ok .wrf64 ∧
  decode 0b00000000000000000000001000110000 = .ok (.crc16 .buf) ∧
  decode 0b00000000000000000000001100110001 = .ok (.chk16 .acc) ∧
  decode 0b00000000000000000000000101000000 = .ok (.hdrparse .acc) ∧
  decode 0b00000000000000000000110101010010 = .ok (.decph .acc .float .polar) ∧
  decode 0b00000000000000000000000001100001 = .ok .frameack

/-! ### The step -/

/-- R400, R401: when the host's next access writes a word to `CMD`, whichever word it is, the word is stored in `CMD` and
executed in that step: the command it decodes to, or, where it is no command, IllegalCommand with no other effect. The word
is the low half of the write's data (log entry 12), and `resp` is the model's record of the bus's answer (log entry 7). -/
def Obligations.StepRunsTheDecodedCommand : Prop :=
  ∀ (s : State) (v : DWord) (w : Word), w = v.extractLsb' 0 32 →
    step (s.hostWrites 0x004 .w32 v) = execute w { s with resp := .written } ∧
    (∀ i : Instr, decode w = .ok i →
      step (s.hostWrites 0x004 .w32 v) = exec i { s with cmd := w, resp := .written }) ∧
    ((∀ i : Instr, decode w ≠ .ok i) →
      step (s.hostWrites 0x004 .w32 v) =
        .next { s with
          cmd := w, err := true, errCode := 7, irqPend := s.irqPend ||| 4, resp := .written })

/-- R14: "every command completes in one step with a result or an error code, for every register and buffer content", and
so does every other step: the machine never stops. -/
def Obligations.EveryStepAnswersANextState : Prop :=
  (∀ (i : Instr) (s : State), ∃ t, exec i s = .next t ∧
    (t.err = false ∧ t.errCode = 0 ∨ t.err = true ∧ 1 ≤ t.errCode.toNat ∧ t.errCode.toNat ≤ 8)) ∧
  ∀ s : State, ∃ t, step s = .next t

/-- R12: the engine never steps on its own (the host's queue is the model's own, log entry 6). The second clause is the
model's DESIGN CHOICE (log entry 4), no rule's: an access outside the block's own aperture, judged by its first address,
leaves the block as it is and is recorded in the model's own `resp` (log entry 7). -/
def Obligations.IdleOrUnselectedBlockKeepsItsState : Prop :=
  (∀ s : State, s.host = [] → step s = .next s) ∧
  ∀ (s : State) (a : Access), (a.addr < s.cfg.blockBase ∨ s.cfg.blockBase + 0x40000 ≤ a.addr) →
    step { s with host := .access a :: s.host } = .next { s with resp := .notSelected }

/-! ### NOP and the field extractor -/

/-- R405. -/
def Obligations.NopOnlyClearsStatus : Prop :=
  OpcodeWords 0x00 [(0x00000000, .nop)] ∧ ∀ s : State, Succeeds .nop s s

/-- R411. -/
def Obligations.ReadU8FollowsItsRule : Prop :=
  OpcodeWords 0x10 [(0x00000010, .rdu8 .buf), (0x00000110, .rdu8 .acc)] ∧
  ∀ (s : State) (sp : Space),
    (s.off.toNat + 1 ≤ s.limitOf sp →
      Succeeds (.rdu8 sp) s { s with res0 := (s.operandByte sp 0).setWidth 64, consumed := 1 }) ∧
    (s.limitOf sp < s.off.toNat + 1 → Raises (.rdu8 sp) s .bufferTooShort)

/-- R412. -/
def Obligations.ReadU16FollowsItsRule : Prop :=
  OpcodeWords 0x11 [(0x00000011, .rdu16 .buf), (0x00000111, .rdu16 .acc)] ∧
  ∀ (s : State) (sp : Space),
    (s.off.toNat + 2 ≤ s.limitOf sp →
      Succeeds (.rdu16 sp) s
        { s with
          res0 := BitVec.ofNat 64 ((s.operandByte sp 0).toNat * 256 + (s.operandByte sp 1).toNat)
          consumed := 2 }) ∧
    (s.limitOf sp < s.off.toNat + 2 → Raises (.rdu16 sp) s .bufferTooShort)

/-- R413. -/
def Obligations.ReadU24FollowsItsRule : Prop :=
  OpcodeWords 0x12 [(0x00000012, .rdu24 .buf), (0x00000112, .rdu24 .acc)] ∧
  ∀ (s : State) (sp : Space),
    (s.off.toNat + 3 ≤ s.limitOf sp →
      Succeeds (.rdu24 sp) s
        { s with
          res0 := BitVec.ofNat 64
            ((s.operandByte sp 0).toNat * 65536 + (s.operandByte sp 1).toNat * 256 + (s.operandByte sp 2).toNat)
          consumed := 3 }) ∧
    (s.limitOf sp < s.off.toNat + 3 → Raises (.rdu24 sp) s .bufferTooShort)

/-- R414, R416: RDU32 and RDF32 return the same four bytes, the first most significant, with the high half 0. -/
def Obligations.ReadU32AndF32FollowTheirRules : Prop :=
  OpcodeWords 0x13 [(0x00000013, .rdu32 .buf), (0x00000113, .rdu32 .acc)] ∧
  OpcodeWords 0x15 [(0x00000015, .rdf32 .buf), (0x00000115, .rdf32 .acc)] ∧
  ∀ (s : State) (sp : Space),
    (s.off.toNat + 4 ≤ s.limitOf sp →
      ∀ i ∈ [Instr.rdu32 sp, Instr.rdf32 sp], Succeeds i s
        { s with
          res0 := (0 : BitVec 32) ++ s.operandByte sp 0 ++ s.operandByte sp 1 ++ s.operandByte sp 2
            ++ s.operandByte sp 3
          consumed := 4 }) ∧
    (s.limitOf sp < s.off.toNat + 4 → ∀ i ∈ [Instr.rdu32 sp, Instr.rdf32 sp], Raises i s .bufferTooShort)

/-- R415: the 64-bit two's-complement form of the signed 16-bit field. -/
def Obligations.ReadI16FollowsItsRule : Prop :=
  OpcodeWords 0x14 [(0x00000014, .rdi16 .buf), (0x00000114, .rdi16 .acc)] ∧
  ∀ (s : State) (sp : Space),
    (s.off.toNat + 2 ≤ s.limitOf sp →
      Succeeds (.rdi16 sp) s
        { s with
          res0 := BitVec.ofInt 64
            (((s.operandByte sp 0).toNat * 256 + (s.operandByte sp 1).toNat : Int)
              - if 128 ≤ (s.operandByte sp 0).toNat then 65536 else 0)
          consumed := 2 }) ∧
    (s.limitOf sp < s.off.toNat + 2 → Raises (.rdi16 sp) s .bufferTooShort)

/-- R417. -/
def Obligations.ReadF64FollowsItsRule : Prop :=
  OpcodeWords 0x16 [(0x00000016, .rdf64 .buf), (0x00000116, .rdf64 .acc)] ∧
  ∀ (s : State) (sp : Space),
    (s.off.toNat + 8 ≤ s.limitOf sp →
      Succeeds (.rdf64 sp) s
        { s with
          res0 := s.operandByte sp 0 ++ s.operandByte sp 1 ++ s.operandByte sp 2 ++ s.operandByte sp 3
            ++ s.operandByte sp 4 ++ s.operandByte sp 5 ++ s.operandByte sp 6 ++ s.operandByte sp 7
          consumed := 8 }) ∧
    (s.limitOf sp < s.off.toNat + 8 → Raises (.rdf64 sp) s .bufferTooShort)

/-! ### The integer encoder -/

/-- R421. -/
def Obligations.WriteU8FollowsItsRule : Prop :=
  OpcodeWords 0x20 [(0x00000020, .wru8)] ∧
  ∀ s : State,
    (s.off.toNat + 1 ≤ s.limit.val →
      ∃ m, Succeeds .wru8 s { s with buf := m, consumed := 1 } ∧ Stores s m [s.val.extractLsb' 0 8]) ∧
    (s.limit.val < s.off.toNat + 1 → Raises .wru8 s .bufferTooShort)

/-- R422, R425: WRU16 and WRI16 are identical in effect. -/
def Obligations.WriteU16AndI16FollowTheirRules : Prop :=
  OpcodeWords 0x21 [(0x00000021, .wru16)] ∧ OpcodeWords 0x24 [(0x00000024, .wri16)] ∧
  ∀ s : State, ∀ i ∈ [Instr.wru16, Instr.wri16],
    (s.off.toNat + 2 ≤ s.limit.val →
      ∃ m, Succeeds i s { s with buf := m, consumed := 2 } ∧
        Stores s m [s.val.extractLsb' 8 8, s.val.extractLsb' 0 8]) ∧
    (s.limit.val < s.off.toNat + 2 → Raises i s .bufferTooShort)

/-- R423. -/
def Obligations.WriteU24FollowsItsRule : Prop :=
  OpcodeWords 0x22 [(0x00000022, .wru24)] ∧
  ∀ s : State,
    (s.off.toNat + 3 ≤ s.limit.val →
      ∃ m, Succeeds .wru24 s { s with buf := m, consumed := 3 } ∧
        Stores s m [s.val.extractLsb' 16 8, s.val.extractLsb' 8 8, s.val.extractLsb' 0 8]) ∧
    (s.limit.val < s.off.toNat + 3 → Raises .wru24 s .bufferTooShort)

/-- R424, R426: WRU32 and WRF32 write the same four bytes, with no conversion. -/
def Obligations.WriteU32AndF32FollowTheirRules : Prop :=
  OpcodeWords 0x23 [(0x00000023, .wru32)] ∧ OpcodeWords 0x25 [(0x00000025, .wrf32)] ∧
  ∀ s : State, ∀ i ∈ [Instr.wru32, Instr.wrf32],
    (s.off.toNat + 4 ≤ s.limit.val →
      ∃ m, Succeeds i s { s with buf := m, consumed := 4 } ∧
        Stores s m
          [s.val.extractLsb' 24 8, s.val.extractLsb' 16 8, s.val.extractLsb' 8 8, s.val.extractLsb' 0 8]) ∧
    (s.limit.val < s.off.toNat + 4 → Raises i s .bufferTooShort)

/-- R427. -/
def Obligations.WriteF64FollowsItsRule : Prop :=
  OpcodeWords 0x26 [(0x00000026, .wrf64)] ∧
  ∀ s : State,
    (s.off.toNat + 8 ≤ s.limit.val →
      ∃ m, Succeeds .wrf64 s { s with buf := m, consumed := 8 } ∧
        Stores s m
          [s.val.extractLsb' 56 8, s.val.extractLsb' 48 8, s.val.extractLsb' 40 8, s.val.extractLsb' 32 8,
           s.val.extractLsb' 24 8, s.val.extractLsb' 16 8, s.val.extractLsb' 8 8, s.val.extractLsb' 0 8]) ∧
    (s.limit.val < s.off.toNat + 8 → Raises .wrf64 s .bufferTooShort)

/-- R428: after a successful write, the matching read from `BUF` at the same offset returns the value, reduced to the
width and extended as that read extends it, in every later state in which those bytes are unchanged. -/
def Obligations.WrittenFieldReadsBack : Prop :=
  (∀ s t u : State, exec .wru8 s = .next t → t.err = false → t.KeepsField u 1 →
    Succeeds (.rdu8 .buf) u { u with res0 := (s.val.extractLsb' 0 8).setWidth 64, consumed := 1 }) ∧
  (∀ s t u : State, exec .wru16 s = .next t → t.err = false → t.KeepsField u 2 →
    Succeeds (.rdu16 .buf) u { u with res0 := (s.val.extractLsb' 0 16).setWidth 64, consumed := 2 }) ∧
  (∀ s t u : State, exec .wru24 s = .next t → t.err = false → t.KeepsField u 3 →
    Succeeds (.rdu24 .buf) u { u with res0 := (s.val.extractLsb' 0 24).setWidth 64, consumed := 3 }) ∧
  (∀ s t u : State, exec .wru32 s = .next t → t.err = false → t.KeepsField u 4 →
    Succeeds (.rdu32 .buf) u { u with res0 := (s.val.extractLsb' 0 32).setWidth 64, consumed := 4 }) ∧
  (∀ s t u : State, exec .wri16 s = .next t → t.err = false → t.KeepsField u 2 →
    Succeeds (.rdi16 .buf) u { u with res0 := (s.val.extractLsb' 0 16).signExtend 64, consumed := 2 }) ∧
  (∀ s t u : State, exec .wrf32 s = .next t → t.err = false → t.KeepsField u 4 →
    Succeeds (.rdf32 .buf) u { u with res0 := (s.val.extractLsb' 0 32).setWidth 64, consumed := 4 }) ∧
  (∀ s t u : State, exec .wrf64 s = .next t → t.err = false → t.KeepsField u 8 →
    Succeeds (.rdf64 .buf) u { u with res0 := s.val, consumed := 8 })

/-! ### Checksums -/

/-- R434. -/
def Obligations.CrcCcittCommandFollowsItsRule : Prop :=
  OpcodeWords 0x30 [(0x00000030, .crcccitt .buf), (0x00000130, .crcccitt .acc),
    (0x00000230, .crc16 .buf), (0x00000330, .crc16 .acc)] ∧
  ∀ (s : State) (sp : Space),
    (s.off.toNat + s.len.toNat ≤ s.limitOf sp →
      Succeeds (.crcccitt sp) s
        { s with res0 := (crcCcitt (s.memRead sp s.off.toNat s.len.toNat)).setWidth 64, consumed := s.len }) ∧
    (s.limitOf sp < s.off.toNat + s.len.toNat → Raises (.crcccitt sp) s .bufferTooShort)

/-- R435. -/
def Obligations.Crc16CommandFollowsItsRule : Prop :=
  OpcodeWords 0x30 [(0x00000030, .crcccitt .buf), (0x00000130, .crcccitt .acc),
    (0x00000230, .crc16 .buf), (0x00000330, .crc16 .acc)] ∧
  ∀ (s : State) (sp : Space),
    (s.off.toNat + s.len.toNat ≤ s.limitOf sp →
      Succeeds (.crc16 sp) s
        { s with
          res0 := (crc16 s.cfg.crc16 (s.memRead sp s.off.toNat s.len.toNat)).setWidth 64
          consumed := s.len }) ∧
    (s.limitOf sp < s.off.toNat + s.len.toNat → Raises (.crc16 sp) s .bufferTooShort)

/-- R436: the bounds checks, then the comparison of the checksum of all bytes but the last two with those two. -/
def Obligations.ChkCcittFollowsItsRule : Prop :=
  OpcodeWords 0x31 [(0x00000031, .chkccitt .buf), (0x00000131, .chkccitt .acc),
    (0x00000231, .chk16 .buf), (0x00000331, .chk16 .acc)] ∧
  ∀ (s : State) (sp : Space),
    (s.len.toNat < 2 ∨ s.limitOf sp < s.off.toNat + s.len.toNat → Raises (.chkccitt sp) s .bufferTooShort) ∧
    (2 ≤ s.len.toNat → s.off.toNat + s.len.toNat ≤ s.limitOf sp →
      ∀ computed stored : BitVec 16,
        computed = crcCcitt (s.memRead sp s.off.toNat (s.len.toNat - 2)) →
        stored = s.operandByte sp (s.len.toNat - 2) ++ s.operandByte sp (s.len.toNat - 1) →
        (computed ≠ stored → Raises (.chkccitt sp) s .checksumMismatch) ∧
        (computed = stored →
          Succeeds (.chkccitt sp) s
            { s with res0 := computed.setWidth 64, res1 := stored.setWidth 64, consumed := s.len }))

/-- R437. -/
def Obligations.Chk16FollowsItsRule : Prop :=
  OpcodeWords 0x31 [(0x00000031, .chkccitt .buf), (0x00000131, .chkccitt .acc),
    (0x00000231, .chk16 .buf), (0x00000331, .chk16 .acc)] ∧
  ∀ (s : State) (sp : Space),
    (s.len.toNat < 2 ∨ s.limitOf sp < s.off.toNat + s.len.toNat → Raises (.chk16 sp) s .bufferTooShort) ∧
    (2 ≤ s.len.toNat → s.off.toNat + s.len.toNat ≤ s.limitOf sp →
      ∀ computed stored : BitVec 16,
        computed = crc16 s.cfg.crc16 (s.memRead sp s.off.toNat (s.len.toNat - 2)) →
        stored = s.operandByte sp (s.len.toNat - 2) ++ s.operandByte sp (s.len.toNat - 1) →
        (computed ≠ stored → Raises (.chk16 sp) s .checksumMismatch) ∧
        (computed = stored →
          Succeeds (.chk16 sp) s
            { s with res0 := computed.setWidth 64, res1 := stored.setWidth 64, consumed := s.len }))

/-- R433: the CRC of the empty list is the initial value XOR the final XOR, and a byte list followed by its own big-endian
CRC-CCITT has CRC-CCITT 0x0000. Beside it, the check values of the ASCII bytes "123456789" that R431 and R432 state, CRC-16
with `CRC16_INIT = CRC16_XOROUT = 0x0000`: another polynomial or bit order gives others. -/
def Obligations.CrcOfEmptyListAndCcittResidue : Prop :=
  crcCcitt [] = 0xFFFF ∧ (∀ cfg : Crc16Cfg, crc16 cfg [] = cfg.init ^^^ cfg.xorout) ∧
  (∀ bs : List Byte, crcCcitt (bs ++ [(crcCcitt bs).extractLsb' 8 8, (crcCcitt bs).extractLsb' 0 8]) = 0x0000) ∧
  crcCcitt [0x31, 0x32, 0x33, 0x34, 0x35, 0x36, 0x37, 0x38, 0x39] = 0x29B1 ∧
  crc16 { init := 0x0000, xorout := 0x0000 } [0x31, 0x32, 0x33, 0x34, 0x35, 0x36, 0x37, 0x38, 0x39] = 0xBB3D

/-- 95_test_vectors.md S8-1: "A CRC with a degree-16 polynomial detects every single-byte error": two byte lists that
differ in one byte only have different checksums, under either algorithm and every `CRC16_CFG`. -/
def Obligations.CrcDetectsEverySingleByteChange : Prop :=
  ∀ (cfg : Crc16Cfg) (g : CrcAlg) (xs ys : List Byte) (b b' : Byte), b ≠ b' →
    crc cfg g (xs ++ b :: ys) ≠ crc cfg g (xs ++ b' :: ys)

/-- 95_test_vectors.md S8-1, the checksum gate: where CHKCCITT or CHK16 accepts a frame image in `BUF`, changing any one
of its bytes makes the same command raise ChecksumMismatch. -/
def Obligations.CheckRejectsEveryCorruptedByte : Prop :=
  ∀ (s t : State) (i : Instr) (a : Nat) (b : Byte), i ∈ [Instr.chkccitt .buf, Instr.chk16 .buf] →
    exec i s = .next t → t.err = false →
    s.off.toNat ≤ a → a < s.off.toNat + s.len.toNat → b ≠ s.bufByte a →
    Raises i { s with buf := Memory.store s.buf a b } .checksumMismatch

/-! ### Headers -/

/-- R446, with R440, R441 and R443: the checks in their order, and the header registers. -/
def Obligations.HdrparseFollowsItsRule : Prop :=
  OpcodeWords 0x40 [(0x00000040, .hdrparse .buf), (0x00000140, .hdrparse .acc)] ∧
  ∀ (s : State) (sp : Space) (b : Nat → Byte) (ftype ver fl : Nat),
    b = s.operandByte sp → ftype = (b 1).toNat / 16 % 8 → ver = (b 1).toNat % 16 →
    fl = (b 2).toNat * 256 + (b 3).toNat →
    (s.limitOf sp < s.off.toNat + 14 → Raises (.hdrparse sp) s .bufferTooShort) ∧
    (s.off.toNat + 14 ≤ s.limitOf sp →
      (b 0 ≠ 0xAA → Raises (.hdrparse sp) s .syncByteMismatch) ∧
      (b 0 = 0xAA →
        (6 ≤ ftype ∨ 3 < ver → Raises (.hdrparse sp) s .invalidFrameTypeOrVersion) ∧
        (ftype ≤ 5 → ver ≤ 3 →
          (fl < 16 → Raises (.hdrparse sp) s .frameLengthTooShort) ∧
          (16 ≤ fl → s.limitOf sp < s.off.toNat + fl → Raises (.hdrparse sp) s .bufferTooShort) ∧
          (16 ≤ fl → s.off.toNat + fl ≤ s.limitOf sp →
            Succeeds (.hdrparse sp) s
              { s with
                hdr := {
                  b7 := decide (128 ≤ (b 1).toNat), ftype := BitVec.ofNat 3 ftype, ver := BitVec.ofNat 4 ver,
                  flen := b 2 ++ b 3, id := b 4 ++ b 5, soc := b 6 ++ b 7 ++ b 8 ++ b 9, tq := b 10,
                  frac := b 11 ++ b 12 ++ b 13, dlen := BitVec.ofNat 16 (fl - 16) }
                consumed := 14 }))))

/-- R447. -/
def Obligations.SetdlenFollowsItsRule : Prop :=
  OpcodeWords 0x41 [(0x00000041, .setdlen)] ∧
  ∀ s : State,
    (s.val.toNat ≤ 65519 →
      Succeeds .setdlen s
        { s with
          hdr := { s.hdr with dlen := s.val.extractLsb' 0 16, flen := (s.val + 16).extractLsb' 0 16 }
          res0 := s.val + 16 }) ∧
    (65519 < s.val.toNat → Raises .setdlen s .dataLengthOverflow)

/-! ### The numeric decoder -/

/-- R455. -/
def Obligations.Decf32FollowsItsRule : Prop :=
  OpcodeWords 0x50 [(0x00000050, .decf32 .buf), (0x00000150, .decf32 .acc)] ∧
  ∀ (s : State) (sp : Space),
    (s.off.toNat + 4 ≤ s.limitOf sp →
      Succeeds (.decf32 sp) s
        { s with
          res0 := cvtF32F64
            (s.operandByte sp 0 ++ s.operandByte sp 1 ++ s.operandByte sp 2 ++ s.operandByte sp 3)
          consumed := 4 }) ∧
    (s.limitOf sp < s.off.toNat + 4 → Raises (.decf32 sp) s .bufferTooShort)

/-- R456, with the factor of R454. -/
def Obligations.DecfixFollowsItsRule : Prop :=
  OpcodeWords 0x51 [(0x00000051, .decfix .buf), (0x00000151, .decfix .acc)] ∧
  ∀ (s : State) (sp : Space),
    (s.off.toNat + 2 ≤ s.limitOf sp →
      Succeeds (.decfix sp) s
        { s with
          res0 := f64mul (intToF64 (s.operandByte sp 0 ++ s.operandByte sp 1 : BitVec 16).toInt)
            (f64mul (intToF64 s.scaleVal.toNat) s.scalePb)
          consumed := 2 }) ∧
    (s.limitOf sp < s.off.toNat + 2 → Raises (.decfix sp) s .bufferTooShort)

/-- R457, all four forms, with the values of R454. -/
def Obligations.DecphFollowsItsRule : Prop :=
  OpcodeWords 0x52 [
    (0x00000052, .decph .buf .fixed .rect), (0x00000852, .decph .buf .fixed .polar),
    (0x00000452, .decph .buf .float .rect), (0x00000C52, .decph .buf .float .polar),
    (0x00000152, .decph .acc .fixed .rect), (0x00000952, .decph .acc .fixed .polar),
    (0x00000552, .decph .acc .float .rect), (0x00000D52, .decph .acc .float .polar)] ∧
  ∀ (s : State) (sp : Space) (p : PhasorCoords) (b : Nat → Byte) (factor : DWord),
    b = s.operandByte sp → factor = f64mul (intToF64 s.scaleVal.toNat) s.scalePb →
    (s.off.toNat + 4 ≤ s.limitOf sp →
      Succeeds (.decph sp .fixed .rect) s
        { s with
          res0 := f64mul (intToF64 (b 0 ++ b 1 : BitVec 16).toInt) factor
          res1 := f64mul (intToF64 (b 2 ++ b 3 : BitVec 16).toInt) factor
          consumed := 4 } ∧
      Succeeds (.decph sp .fixed .polar) s
        { s with
          res0 := f64mul (intToF64 (b 0 ++ b 1 : BitVec 16).toInt) factor
          res1 := f64mul (intToF64 (b 2 ++ b 3 : BitVec 16).toInt) s.angleSc
          consumed := 4 }) ∧
    (s.off.toNat + 8 ≤ s.limitOf sp →
      Succeeds (.decph sp .float p) s
        { s with
          res0 := cvtF32F64 (b 0 ++ b 1 ++ b 2 ++ b 3)
          res1 := cvtF32F64 (b 4 ++ b 5 ++ b 6 ++ b 7)
          consumed := 8 }) ∧
    (s.limitOf sp < s.off.toNat + 4 → Raises (.decph sp .fixed p) s .bufferTooShort) ∧
    (s.limitOf sp < s.off.toNat + 8 → Raises (.decph sp .float p) s .bufferTooShort)

/-- R451 and R453: widening a binary32 keeps a NaN's sign and payload and sets its quiet bit, keeps every other value
exactly, and keeps the sign; an integer below `2^53` in magnitude converts exactly. -/
def Obligations.ConversionsToBinary64AreExact : Prop :=
  (∀ x : BitVec 32,
    (x.extractLsb' 23 8 = 0xFF → x.extractLsb' 0 23 ≠ 0 →
      cvtF32F64 x = x.extractLsb' 31 1 ++ (0x7FF : BitVec 11) ++ (1 : BitVec 1) ++ x.extractLsb' 0 22 ++ (0 : BitVec 29)) ∧
    (x.extractLsb' 23 8 = 0xFF → x.extractLsb' 0 23 = 0 →
      cvtF32F64 x = x.extractLsb' 31 1 ++ (0x7FF : BitVec 11) ++ (0 : BitVec 52)) ∧
    (x.extractLsb' 23 8 ≠ 0xFF →
      (cvtF32F64 x).getLsbD 63 = x.getLsbD 31 ∧ (cvtF32F64 x).toNat % 2 ^ 63 < 0x7FF0000000000000 ∧
      units64 ((cvtF32F64 x).toNat % 2 ^ 63) = units32 (x.toNat % 2 ^ 31) * 2 ^ 925)) ∧
  ∀ i : Int, i.natAbs < 2 ^ 53 →
    (intToF64 i).getLsbD 63 = decide (i < 0) ∧ (intToF64 i).toNat % 2 ^ 63 < 0x7FF0000000000000 ∧
    units64 ((intToF64 i).toNat % 2 ^ 63) = i.natAbs * 2 ^ 1074

/-- R452, the special operands: a NaN, or a zero times an infinity, gives the canonical quiet NaN; any other product with
an infinity is an infinity, and with a zero a zero, of the XOR of the signs. -/
def Obligations.ProductOfSpecialOperands : Prop :=
  ∀ (a b : DWord) (ma mb : Nat), ma = a.toNat % 2 ^ 63 → mb = b.toNat % 2 ^ 63 →
    (0x7FF0000000000000 < ma ∨ 0x7FF0000000000000 < mb → f64mul a b = 0x7FF8000000000000) ∧
    (ma = 0 → mb = 0x7FF0000000000000 → f64mul a b = 0x7FF8000000000000) ∧
    (ma = 0x7FF0000000000000 → mb = 0 → f64mul a b = 0x7FF8000000000000) ∧
    (ma = 0x7FF0000000000000 → 0 < mb → mb ≤ 0x7FF0000000000000 →
      f64mul a b = ((a ^^^ b) &&& 0x8000000000000000) ||| 0x7FF0000000000000) ∧
    (mb = 0x7FF0000000000000 → 0 < ma → ma ≤ 0x7FF0000000000000 →
      f64mul a b = ((a ^^^ b) &&& 0x8000000000000000) ||| 0x7FF0000000000000) ∧
    (ma = 0 → mb < 0x7FF0000000000000 → f64mul a b = (a ^^^ b) &&& 0x8000000000000000) ∧
    (mb = 0 → ma < 0x7FF0000000000000 → f64mul a b = (a ^^^ b) &&& 0x8000000000000000)

/-- R450 and R452, finite operands: the product of two finite values is the nearest binary64 value to the exact product,
the one with an even last bit where two are equally near, an infinity from the midpoint above the largest finite value on,
with the XOR of the signs. Exact values are counted in units of `2^-1074`, products in units of `2^-2148`. -/
def Obligations.ProductIsRoundedToNearestEven : Prop :=
  ∀ (a b : DWord) (ma mb r : Nat),
    ma = a.toNat % 2 ^ 63 → mb = b.toNat % 2 ^ 63 → r = (f64mul a b).toNat % 2 ^ 63 →
    ma < 0x7FF0000000000000 → mb < 0x7FF0000000000000 →
    (f64mul a b).getLsbD 63 = (a.getLsbD 63 != b.getLsbD 63) ∧
    r ≤ 0x7FF0000000000000 ∧
    (r = 0x7FF0000000000000 ↔ (2 ^ 54 - 1) * 2 ^ 2044 * 2 ^ 1074 ≤ units64 ma * units64 mb) ∧
    (r < 0x7FF0000000000000 → ∀ c < 0x7FF0000000000000,
      gap (units64 r * 2 ^ 1074) (units64 ma * units64 mb) ≤ gap (units64 c * 2 ^ 1074) (units64 ma * units64 mb) ∧
      (c ≠ r →
        gap (units64 r * 2 ^ 1074) (units64 ma * units64 mb) = gap (units64 c * 2 ^ 1074) (units64 ma * units64 mb) →
        r % 2 = 0))

/-- 45_numeric_decoder.md section 2 (R458 says it of the registers): what a numeric command that succeeds leaves in `RES0`
and `RES1` depends only on the bytes it reads and on `SCALEVAL`, `SCALE_PB` and `ANGLE_SC` (and, where it writes no
`RES1`, on the old `RES1`); it leaves `BUF`, the header registers and the synchronizer alone. -/
def Obligations.NumericResultsDependOnlyOnOperands : Prop :=
  ∀ (s s' t t' : State) (i : Instr) (sp : Space),
    (i = .decf32 sp ∨ i = .decfix sp ∨ ∃ f p, i = .decph sp f p) →
    exec i s = .next t → exec i s' = .next t' → t.err = false → t'.err = false →
    (t.buf = s.buf ∧ t.hdr = s.hdr ∧ t.sync = s.sync) ∧
    ((∀ k < t.consumed.toNat, s.operandByte sp k = s'.operandByte sp k) →
      s.scaleVal = s'.scaleVal → s.scalePb = s'.scalePb → s.angleSc = s'.angleSc → s.res1 = s'.res1 →
      t.res0 = t'.res0 ∧ t.res1 = t'.res1)

/-! ### The synchronizer -/

/-- R462, and R461 in SEEKING: the sync byte opens a candidate; any other byte is skipped and counted. -/
def Obligations.SeekingTakesOnlyTheSyncByte : Prop :=
  ∀ (e : SyncEnv) (b : Byte) (r : SyncRun), r.sync.state = .seeking →
    (b = 0xAA → syncStep e b r = { r with sync := { r.sync with acc := [0xAA], state := .hdrBuf } }) ∧
    (b ≠ 0xAA → syncStep e b r = { r with sync := { r.sync with skipCnt := r.sync.skipCnt + 1 } })

/-- R465 with R443 and R468, and R461 in HDR_BUF: a byte is appended, and the 14th has the header checked; a bad type or
version, or a length below 16, discards the candidate and puts the bytes after its sync byte in front of `REPLAY`. -/
def Obligations.HeaderBytesFollowTheRule : Prop :=
  ∀ (e : SyncEnv) (b : Byte) (r : SyncRun) (acc' : List Byte) (ftype ver fl : Nat),
    r.sync.state = .hdrBuf → acc' = r.sync.acc ++ [b] →
    ftype = (acc'.getD 1 0).toNat / 16 % 8 → ver = (acc'.getD 1 0).toNat % 16 →
    fl = (acc'.getD 2 0).toNat * 256 + (acc'.getD 3 0).toNat →
    (acc'.length ≠ 14 → syncStep e b r = { r with sync := { r.sync with acc := acc' } }) ∧
    (acc'.length = 14 →
      (6 ≤ ftype ∨ 3 < ver ∨ fl < 16 →
        syncStep e b r = {
          sync := { r.sync with
            resyncCnt := r.sync.resyncCnt + 1
            diagCause := if 6 ≤ ftype ∨ 3 < ver then 3 else 6
            diagPos := r.sync.streamPos - 14 - BitVec.ofNat 32 r.sync.replay.length
            replay := acc'.drop 1 ++ r.sync.replay
            acc := []
            state := .seeking }
          pend := r.pend ||| 2 }) ∧
      (ftype ≤ 5 → ver ≤ 3 → 16 ≤ fl →
        syncStep e b r =
          { r with
            sync := { r.sync with
              acc := acc'
              frameType := BitVec.ofNat 3 ftype
              frameLen := BitVec.ofNat 16 fl
              state := .bodyBuf } }))

/-- R466 with R467, R468 and R438, and R461 in BODY_BUF: a byte is appended; the byte that completes the declared length
has the checksum of the frame's type checked when `CRC_VEN` asks for it, and the frame is dispatched or the candidate
discarded. -/
def Obligations.BodyBytesFollowTheRule : Prop :=
  ∀ (e : SyncEnv) (b : Byte) (r : SyncRun) (acc' : List Byte) (n : Nat) (bad : Prop),
    r.sync.state = .bodyBuf → acc' = r.sync.acc ++ [b] → n = r.sync.frameLen.toNat → 2 ≤ n →
    (bad ↔ e.crcVen.getLsbD r.sync.frameType.toNat = true ∧
      (if e.crcAlg.getLsbD r.sync.frameType.toNat then crc16 e.crc16 (acc'.take (n - 2))
        else crcCcitt (acc'.take (n - 2))) ≠ (acc'.getD (n - 2) 0 ++ acc'.getD (n - 1) 0 : BitVec 16)) →
    (acc'.length ≠ n → syncStep e b r = { r with sync := { r.sync with acc := acc' } }) ∧
    (acc'.length = n →
      (bad →
        syncStep e b r = {
          sync := { r.sync with
            crcErrCnt := r.sync.crcErrCnt + 1
            resyncCnt := r.sync.resyncCnt + 1
            diagCause := 5
            diagPos := r.sync.streamPos - BitVec.ofNat 32 n - BitVec.ofNat 32 r.sync.replay.length
            replay := acc'.drop 1 ++ r.sync.replay
            acc := []
            state := .seeking }
          pend := r.pend ||| 2 }) ∧
      (¬ bad →
        syncStep e b r = {
          sync := { r.sync with
            acc := acc'
            state := .dispatch
            frameCnt := r.sync.frameCnt + 1
            cmdfCnt := if r.sync.frameType = 4 then r.sync.cmdfCnt + 1 else r.sync.cmdfCnt
            framePos := r.sync.streamPos - BitVec.ofNat 32 n - BitVec.ofNat 32 r.sync.replay.length }
          pend := r.pend ||| 1 }))

/-- R472: FEED runs the loop of its pseudocode (`FeedReaches`) on `BUF[OFF .. OFF+LEN-1]` until it exits, which it always
does, and leaves `RES0` and `CONSUMED` the number of bytes taken; it raises BufferTooShort, and takes nothing, when the range
is out of bounds. -/
def Obligations.FeedRunsItsLoopToTheEnd : Prop :=
  OpcodeWords 0x60 [(0x00000060, .feed)] ∧
  ∀ s : State,
    (s.off.toNat + s.len.toNat ≤ s.limit.val →
      ∃ f : FeedRun,
        FeedReaches { crcAlg := s.crcAlg, crcVen := s.crcVen, crc16 := s.cfg.crc16 }
          { run := { sync := s.sync, pend := s.irqPend }
            input := s.memRead .buf s.off.toNat s.len.toNat
            taken := 0 } f ∧
        Succeeds .feed s
          { s with
            sync := f.run.sync
            irqPend := f.run.pend
            res0 := BitVec.ofNat 64 f.taken
            consumed := BitVec.ofNat 32 f.taken }) ∧
    (s.limit.val < s.off.toNat + s.len.toNat → Raises .feed s .bufferTooShort)

/-- R472, corner cases: a FEED that does not end in DISPATCH took the whole chunk and drained `REPLAY`; one that starts in
DISPATCH takes nothing and changes nothing. -/
def Obligations.FeedDrainsUnlessDispatched : Prop :=
  ∀ s t : State, exec .feed s = .next t → t.err = false →
    t.consumed.toNat ≤ s.len.toNat ∧ t.res0 = t.consumed.setWidth 64 ∧
    (t.sync.state ≠ .dispatch → t.consumed = s.len ∧ t.sync.replay = []) ∧
    (s.sync.state = .dispatch → t = { s with res0 := 0, consumed := 0, err := false, errCode := 0 })

/-- R463: "resumes exactly where it left off on the next input chunk": feeding a chunk in two parts, where the first part
dispatches nothing, leaves the synchronizer and `IRQ_PEND` as feeding it at once does, and takes as many bytes in all. -/
def Obligations.FeedResumesAcrossChunks : Prop :=
  ∀ (s t₁ t₂ t : State) (m n : Nat),
    s.off.toNat + m + n ≤ s.limit.val →
    exec .feed { s with len := BitVec.ofNat 32 m } = .next t₁ → t₁.sync.state ≠ .dispatch →
    exec .feed { t₁ with off := BitVec.ofNat 32 (s.off.toNat + m), len := BitVec.ofNat 32 n } = .next t₂ →
    exec .feed { s with len := BitVec.ofNat 32 (m + n) } = .next t →
    t.sync = t₂.sync ∧ t.irqPend = t₂.irqPend ∧ t.consumed.toNat = t₁.consumed.toNat + t₂.consumed.toNat

/-- R469: the candidate, `REPLAY` and the bytes not yet taken are one contiguous run of the stream: a FEED only drops
bytes from its front (each one counted as a skip or as the sync byte of a resync) and reorders, loses and repeats none,
and `pos0()` advances by the number dropped. -/
def Obligations.FeedKeepsTheStreamContiguous : Prop :=
  ∀ s t : State, s.Inv → exec .feed s = .next t → t.err = false →
    ∃ d : Nat,
      t.sync.acc ++ t.sync.replay ++ (s.memRead .buf s.off.toNat s.len.toNat).drop t.consumed.toNat
        = (s.sync.acc ++ s.sync.replay ++ s.memRead .buf s.off.toNat s.len.toNat).drop d ∧
      d + t.sync.acc.length + t.sync.replay.length
        = s.sync.acc.length + s.sync.replay.length + t.consumed.toNat ∧
      t.sync.streamPos = s.sync.streamPos + t.consumed ∧
      pos0 t.sync = pos0 s.sync + BitVec.ofNat 32 d ∧
      BitVec.ofNat 32 d
        = (t.sync.skipCnt - s.sync.skipCnt) + (t.sync.resyncCnt - s.sync.resyncCnt)

/-- R466, R467: a FEED delivers at most one frame, and only one that starts with the sync byte, has a plausible header,
has its declared length and passes the check that `CRC_VEN` and `CRC_ALG` ask for; it is counted and its position
recorded. -/
def Obligations.OnlyCheckedFramesAreDispatched : Prop :=
  ∀ (s t : State) (n : Nat), s.Inv → exec .feed s = .next t → t.err = false → s.sync.state ≠ .dispatch →
    n = t.sync.frameLen.toNat →
    (t.sync.state ≠ .dispatch →
      t.sync.frameCnt = s.sync.frameCnt ∧ t.sync.cmdfCnt = s.sync.cmdfCnt ∧ t.sync.framePos = s.sync.framePos) ∧
    (t.sync.state = .dispatch →
      t.sync.frameCnt = s.sync.frameCnt + 1 ∧
      t.sync.cmdfCnt = s.sync.cmdfCnt + (if t.sync.frameType = 4 then 1 else 0) ∧
      t.sync.framePos = pos0 t.sync ∧ t.irqPend.getLsbD 0 = true ∧
      t.sync.acc.length = n ∧ t.sync.HeaderAccepted ∧
      (s.crcVen.getLsbD t.sync.frameType.toNat = true →
        crc s.cfg.crc16 (algOfBit (s.crcAlg.getLsbD t.sync.frameType.toNat)) (t.sync.acc.take (n - 2))
          = (t.sync.acc.getD (n - 2) 0 ++ t.sync.acc.getD (n - 1) 0 : BitVec 16)))

/-- R473. -/
def Obligations.FrameackReleasesTheFrame : Prop :=
  OpcodeWords 0x61 [(0x00000061, .frameack)] ∧
  ∀ s : State,
    (s.sync.state = .dispatch →
      Succeeds .frameack s { s with sync := { s.sync with acc := [], state := .seeking } }) ∧
    (s.sync.state ≠ .dispatch → Raises .frameack s .syncStateError)

/-- R474. -/
def Obligations.SyncresetClearsTheSynchronizer : Prop :=
  OpcodeWords 0x62 [(0x00000062, .syncreset)] ∧
  ∀ s : State,
    Succeeds .syncreset s
      { s with
        sync := {
          state := .seeking, acc := [], replay := [], frameType := 0, frameLen := 0, framePos := 0, streamPos := 0,
          frameCnt := 0, cmdfCnt := 0, resyncCnt := 0, crcErrCnt := 0, skipCnt := 0, diagCause := 0,
          diagPos := 0 } }

/-! ### Whole-machine rules over the commands -/

/-- R402, R403: a command ends with `ERR` and `ERRCODE` cleared, or with `ERR` set, a code from 1 to 8 and `IRQ_PEND[2]`
set; in the second case it changes nothing else. -/
def Obligations.FailingCommandChangesOnlyStatus : Prop :=
  ∀ (i : Instr) (s t : State), exec i s = .next t →
    (t.err = false → t.errCode = 0) ∧
    (t.err = true →
      1 ≤ t.errCode.toNat ∧ t.errCode.toNat ≤ 8 ∧
      t = { s with err := true, errCode := t.errCode, irqPend := s.irqPend ||| 4 })

/-- R101, R211, R206: no command writes an operand or configuration register, `IRQ_EN` or `CMD`; only the encoder writes
`BUF`; only HDRPARSE and SETDLEN write the header registers; only FEED, FRAMEACK and SYNCRESET write the synchronizer and
`ACC`; only the checks and DECPH write `RES1`. -/
def Obligations.CommandsWriteOnlyTheirOwnState : Prop :=
  ∀ (i : Instr) (s t : State), exec i s = .next t →
    (t.cfg = s.cfg ∧ t.epoch = s.epoch ∧ t.host = s.host ∧ t.resp = s.resp ∧ t.cmd = s.cmd) ∧
    (t.off = s.off ∧ t.len = s.len ∧ t.val = s.val ∧ t.limit = s.limit ∧ t.scaleVal = s.scaleVal ∧
      t.scalePb = s.scalePb ∧ t.angleSc = s.angleSc ∧ t.crcAlg = s.crcAlg ∧ t.crcVen = s.crcVen ∧
      t.irqEn = s.irqEn) ∧
    (i ∉ [Instr.wru8, .wru16, .wru24, .wru32, .wri16, .wrf32, .wrf64] → t.buf = s.buf) ∧
    ((∀ sp, i ≠ .hdrparse sp) → i ≠ .setdlen → t.hdr = s.hdr) ∧
    (i ∉ [Instr.feed, .frameack, .syncreset] → t.sync = s.sync) ∧
    ((∀ sp, i ≠ .chkccitt sp) → (∀ sp, i ≠ .chk16 sp) → (∀ sp f p, i ≠ .decph sp f p) → t.res1 = s.res1)

/-- R611, R612: no command clears a bit of `IRQ_PEND`; only FEED sets bits 0 and 1; bit 2 is set exactly by the commands
that raise an error; and no command sets bit 2 together with another. -/
def Obligations.CommandsOnlySetPendingBits : Prop :=
  ∀ (i : Instr) (s t : State), exec i s = .next t →
    (∀ k, s.irqPend.getLsbD k = true → t.irqPend.getLsbD k = true) ∧
    (i ≠ .feed → t.irqPend.getLsbD 0 = s.irqPend.getLsbD 0 ∧ t.irqPend.getLsbD 1 = s.irqPend.getLsbD 1) ∧
    (t.err = true → t.irqPend = s.irqPend ||| 4) ∧
    (t.err = false → t.irqPend.getLsbD 2 = s.irqPend.getLsbD 2)

/-- R213: "Re-issuing a command is idempotent for the extractor, CRC, header-parse, numeric and encoder commands given
unchanged operands and memory". -/
def Obligations.ReissuedCommandChangesNothing : Prop :=
  ∀ (i : Instr) (s t : State), i ∉ [Instr.feed, .frameack, .syncreset] →
    exec i s = .next t → exec i t = .next t

/-! ### Registers, windows and the interrupt -/

/-- R103 to R142, R143: what a host read of each register returns, and that every other 4-aligned offset of the register
window reads 0; the read changes nothing. -/
def Obligations.RegisterReadsReturnTheirFields : Prop :=
  ∀ (s : State) (table : List (Nat × Word)),
    table =
      [(0x000, 0x50434653), (0x004, s.cmd), (0x008, s.status), (0x00C, s.errCode.setWidth 32),
       (0x010, s.off), (0x014, s.len), (0x018, s.val.extractLsb' 0 32), (0x01C, s.val.extractLsb' 32 32),
       (0x020, s.res0.extractLsb' 0 32), (0x024, s.res0.extractLsb' 32 32),
       (0x028, s.res1.extractLsb' 0 32), (0x02C, s.res1.extractLsb' 32 32),
       (0x030, s.consumed), (0x034, BitVec.ofNat 32 s.limit.val), (0x038, s.scaleVal),
       (0x040, s.scalePb.extractLsb' 0 32), (0x044, s.scalePb.extractLsb' 32 32),
       (0x048, s.angleSc.extractLsb' 0 32), (0x04C, s.angleSc.extractLsb' 32 32),
       (0x050, s.crcAlg.setWidth 32), (0x054, s.crcVen.setWidth 32),
       (0x058, s.irqEn.setWidth 32), (0x05C, s.irqPend.setWidth 32),
       (0x060, BitVec.ofNat 32 (s.hdr.b7.toNat * 128 + s.hdr.ftype.toNat)), (0x064, s.hdr.ver.setWidth 32),
       (0x068, s.hdr.flen.setWidth 32), (0x06C, s.hdr.id.setWidth 32), (0x070, s.hdr.soc),
       (0x074, s.hdr.frac.setWidth 32), (0x078, s.hdr.tq.setWidth 32), (0x07C, s.hdr.dlen.setWidth 32)]
      ++
      [(0x080, match s.sync.state with | .seeking => 0 | .hdrBuf => 1 | .bodyBuf => 2 | .dispatch => 3),
       (0x084, BitVec.ofNat 32 s.sync.acc.length), (0x088, BitVec.ofNat 32 s.sync.replay.length),
       (0x08C, s.sync.frameType.setWidth 32), (0x090, s.sync.frameLen.setWidth 32), (0x094, s.sync.framePos),
       (0x098, s.sync.streamPos), (0x09C, s.sync.frameCnt), (0x0A0, s.sync.cmdfCnt), (0x0A4, s.sync.resyncCnt),
       (0x0A8, s.sync.crcErrCnt), (0x0AC, s.sync.skipCnt), (0x0B0, s.sync.diagCause.setWidth 32),
       (0x0B4, s.sync.diagPos), (0x0FC, 0x00000001)] →
    (∀ p ∈ table, step (s.hostReads p.1 .w32) = .next { s with resp := .data p.2 }) ∧
    ∀ off < 0x100, off % 4 = 0 → off ∉ table.map (·.1) →
      step (s.hostReads off .w32) = .next { s with resp := .data 0 }

/-- R108 to R110, R113 to R120 with R100 and R143: what a host write of each register stores, `LIMIT` the nearest legal
value and `IRQ_PEND` cleared where a 1 is written; a write of any other register but `CMD` is ignored. -/
def Obligations.RegisterWritesStoreLegalValues : Prop :=
  ∀ (s : State) (v : Word),
    WriteLeaves s 0x010 v { s with off := v } ∧
    WriteLeaves s 0x014 v { s with len := v } ∧
    WriteLeaves s 0x018 v { s with val := s.val.extractLsb' 32 32 ++ v } ∧
    WriteLeaves s 0x01C v { s with val := v ++ s.val.extractLsb' 0 32 } ∧
    (∃ l, WriteLeaves s 0x034 v { s with limit := l } ∧ l.val = min v.toNat 65536) ∧
    WriteLeaves s 0x038 v { s with scaleVal := v } ∧
    WriteLeaves s 0x040 v { s with scalePb := s.scalePb.extractLsb' 32 32 ++ v } ∧
    WriteLeaves s 0x044 v { s with scalePb := v ++ s.scalePb.extractLsb' 0 32 } ∧
    WriteLeaves s 0x048 v { s with angleSc := s.angleSc.extractLsb' 32 32 ++ v } ∧
    WriteLeaves s 0x04C v { s with angleSc := v ++ s.angleSc.extractLsb' 0 32 } ∧
    WriteLeaves s 0x050 v { s with crcAlg := v.extractLsb' 0 8 } ∧
    WriteLeaves s 0x054 v { s with crcVen := v.extractLsb' 0 8 } ∧
    WriteLeaves s 0x058 v { s with irqEn := v.extractLsb' 0 3 } ∧
    WriteLeaves s 0x05C v { s with irqPend := s.irqPend &&& ~~~(v.extractLsb' 0 3) } ∧
    ∀ off < 0x100, off % 4 = 0 →
      off ∉ [0x004, 0x010, 0x014, 0x018, 0x01C, 0x034, 0x038, 0x040, 0x044, 0x048, 0x04C, 0x050, 0x054, 0x058, 0x05C] →
      WriteLeaves s off v s

/-- R208: the windows move bytes big-endian, an 8-bit access in bits [7:0]; a byte of `ACC` at or beyond `ACC_CNT` reads
0x00; reads have no side effect. -/
def Obligations.WindowAccessesAreBigEndian : Prop :=
  ∀ (s : State) (k : Nat) (v : DWord), k < 65536 →
    (step (s.hostReads (0x10000 + k) .w8) = .next { s with resp := .data ((s.bufByte k).setWidth 32) }) ∧
    (step (s.hostReads (0x20000 + k) .w8) =
      .next { s with resp := .data ((if k < s.sync.acc.length then s.sync.acc.getD k 0 else 0).setWidth 32) }) ∧
    (∃ m, step (s.hostWrites (0x10000 + k) .w8 v) = .next { s with buf := m, resp := .written } ∧
      ∀ a, ({ s with buf := m } : State).bufByte a = if a = k then v.extractLsb' 0 8 else s.bufByte a) ∧
    (k % 4 = 0 →
      step (s.hostReads (0x10000 + k) .w32) =
        .next { s with resp := .data (s.bufByte k ++ s.bufByte (k + 1) ++ s.bufByte (k + 2) ++ s.bufByte (k + 3)) } ∧
      step (s.hostReads (0x20000 + k) .w32) =
        .next { s with
          resp := .data (s.accByte k ++ s.accByte (k + 1) ++ s.accByte (k + 2) ++ s.accByte (k + 3)) } ∧
      ∃ m, step (s.hostWrites (0x10000 + k) .w32 v) = .next { s with buf := m, resp := .written } ∧
        ∀ a, ({ s with buf := m } : State).bufByte a =
          if a = k then v.extractLsb' 24 8 else if a = k + 1 then v.extractLsb' 16 8
          else if a = k + 2 then v.extractLsb' 8 8 else if a = k + 3 then v.extractLsb' 0 8 else s.bufByte a)

/-- R209, R213: every illegal access is a bus error, which changes no state of the block and returns no data; a legal read
returns data and has no side effect; a legal write is accepted. -/
def Obligations.IllegalAccessesAreBusErrors : Prop :=
  ∀ (s : State) (off : Nat) (w : Width) (v : DWord), off < 0x40000 →
    (¬ LegalRead off w → step (s.hostReads off w) = .next { s with resp := .busError }) ∧
    (¬ LegalWrite off w → step (s.hostWrites off w v) = .next { s with resp := .busError }) ∧
    (LegalRead off w → ∃ d, step (s.hostReads off w) = .next { s with resp := .data d }) ∧
    (LegalWrite off w → ∃ t, step (s.hostWrites off w v) = .next t ∧ t.resp = .written)

/-- R106, R610: the bits of `STATUS`, and the level of the interrupt output. -/
def Obligations.StatusAndInterruptAreLiveViews : Prop :=
  ∀ s : State,
    (s.status.getLsbD 0 = s.err ∧
      (s.status.getLsbD 1 = true ↔ s.sync.state = .dispatch) ∧
      (s.status.getLsbD 2 = true ↔ s.sync.replay ≠ []) ∧
      s.status.getLsbD 3 = s.irq ∧ s.status.toNat < 16) ∧
    s.irq = (s.irqEn.getLsbD 0 && s.irqPend.getLsbD 0 || s.irqEn.getLsbD 1 && s.irqPend.getLsbD 1
      || s.irqEn.getLsbD 2 && s.irqPend.getLsbD 2)

/-! ### Reset and the invariant -/

/-- R146: what a host reads from each register right after reset, and the empty memories. -/
def Obligations.ResetValuesAreThoseOfTheTable : Prop :=
  (∀ p ∈ ([(0x000, 0x50434653), (0x0FC, 0x00000001), (0x034, 65536), (0x038, 1), (0x040, 0x88E368F1),
      (0x044, 0x3EE4F8B5), (0x048, 0xEB1C432D), (0x04C, 0x3F1A36E2), (0x050, 0xFD), (0x054, 0xFF)] : List (Nat × Word)),
    step (State.reset.hostReads p.1 .w32) = .next { State.reset with resp := .data p.2 }) ∧
  (∀ off < 0x100, off % 4 = 0 →
    off ∉ [0x000, 0x0FC, 0x034, 0x038, 0x040, 0x044, 0x048, 0x04C, 0x050, 0x054] →
    step (State.reset.hostReads off .w32) = .next { State.reset with resp := .data 0 }) ∧
  State.reset.sync.acc = [] ∧ State.reset.sync.replay = [] ∧ State.reset.buf = []

/-- R700: a hardware reset, from any state, gives every register its reset value, empties `REPLAY` and leaves `BUF`
unspecified. What stays is the model's own: the build's configuration, the host's further events, and a new index of the
free value (log entries 1 and 8). -/
def Obligations.HardwareResetRestoresResetState : Prop :=
  ∀ s : State, step { s with host := .hardwareReset :: s.host } =
    .next { State.reset with cfg := s.cfg, epoch := s.epoch + 1, host := s.host }

/-- The invariant of R460, R470, R122, R123, R128, R106 and R600 holds after reset. -/
def Obligations.ResetMeetsTheInvariant : Prop := State.reset.Inv

/-- R460, R470: the invariant of the block "holds after every command", and after every other step: from any state that
meets it, whatever the host does next. -/
def Obligations.EveryStepKeepsTheInvariant : Prop :=
  ∀ s t : State, s.Inv → step s = .next t → t.Inv
end

