-- ==== Sys2Proof/Laws/Memory.lean ====
section
/-! SUPPORT. The laws of the cells of `BUF`: a read after a write, and the canonical form. -/

namespace Sys2Proof.Machine

theorem Memory.byteAt?_store_same (m : Memory) (a : Nat) (b : Byte) :
    Memory.byteAt? (Memory.store m a b) a = some b := by
  induction m with
  | nil => simp [Memory.store, Memory.byteAt?]
  | cons c m ih =>
    unfold Memory.store
    split
    · simp [Memory.byteAt?]
    · split
      · simp [Memory.byteAt?]
      · rename_i h1 h2
        have : c.1 ≠ a := fun h => h2 h.symm
        simp [Memory.byteAt?, this, ih]

theorem Memory.byteAt?_store_other (m : Memory) {a x : Nat} (b : Byte) (h : x ≠ a) :
    Memory.byteAt? (Memory.store m a b) x = Memory.byteAt? m x := by
  induction m with
  | nil => simp [Memory.store, Memory.byteAt?, h.symm]
  | cons c m ih =>
    unfold Memory.store
    split
    · simp [Memory.byteAt?, h.symm]
    · split
      · rename_i _ h2
        subst h2
        simp [Memory.byteAt?, h.symm]
      · simp [Memory.byteAt?, ih]

/-- What a store can put in the list: the new cell and the old ones. -/
theorem Memory.mem_store {m : Memory} {a : Nat} {b : Byte} {c : Host.Cell} (h : c ∈ Memory.store m a b) :
    c = (a, b) ∨ c ∈ m := by
  induction m with
  | nil => simpa [Memory.store] using h
  | cons d m ih =>
    unfold Memory.store at h
    split at h
    · simpa using h
    · split at h
      · rcases List.mem_cons.1 h with h | h
        · exact .inl h
        · exact .inr (List.mem_cons_of_mem _ h)
      · rcases List.mem_cons.1 h with h | h
        · exact .inr (h ▸ List.mem_cons_self)
        · rcases ih h with h | h
          · exact .inl h
          · exact .inr (List.mem_cons_of_mem _ h)

/-- A write inside `BUF` keeps the canonical form. -/
theorem Memory.store_wf {m : Memory} {a : Nat} (b : Byte) (hm : Memory.wf m) (ha : a < bufSize) :
    Memory.wf (Memory.store m a b) := by
  refine ⟨?_, fun c hc => ?_⟩
  · have hp := hm.1
    clear hm ha
    induction m with
    | nil => simp [Memory.store]
    | cons c m ih =>
      obtain ⟨h1, h2⟩ := List.pairwise_cons.1 hp
      unfold Memory.store
      split
      · rename_i hlt
        refine List.pairwise_cons.2 ⟨fun d hd => ?_, hp⟩
        rcases List.mem_cons.1 hd with h | h
        · exact h ▸ hlt
        · exact Nat.lt_trans hlt (h1 d h)
      · split
        · rename_i heq
          exact List.pairwise_cons.2 ⟨fun d hd => heq ▸ h1 d hd, h2⟩
        · refine List.pairwise_cons.2 ⟨fun d hd => ?_, ih h2⟩
          rcases Memory.mem_store hd with h | h
          · subst h; simp; omega
          · exact h1 d h
  · rcases Memory.mem_store hc with h | h
    · exact h ▸ ha
    · exact hm.2 c h

/-- A write of several bytes inside `BUF` keeps the canonical form. -/
theorem Memory.storeBytes_wf {m : Memory} {a : Nat} (bs : List Byte) (hm : Memory.wf m)
    (ha : a + bs.length ≤ bufSize) : Memory.wf (Memory.storeBytes m a bs) := by
  induction bs generalizing m a with
  | nil => exact hm
  | cons b bs ih =>
    rw [List.length_cons] at ha
    exact ih (Memory.store_wf b hm (by omega)) (by omega)

/-- One byte after a write of several: the written byte inside the range, the old one outside. -/
theorem Memory.byteAt?_storeBytes (m : Memory) (a x : Nat) (bs : List Byte) :
    Memory.byteAt? (Memory.storeBytes m a bs) x =
      if a ≤ x ∧ x < a + bs.length then bs[x - a]? else Memory.byteAt? m x := by
  induction bs generalizing m a with
  | nil => simp [Memory.storeBytes]
  | cons b bs ih =>
    rw [Memory.storeBytes, ih, List.length_cons]
    by_cases h1 : a + 1 ≤ x ∧ x < a + 1 + bs.length
    · have h2 : a ≤ x ∧ x < a + (bs.length + 1) := by omega
      rw [if_pos h1, if_pos h2, show x - a = (x - (a + 1)) + 1 by omega, List.getElem?_cons_succ]
    · rw [if_neg h1]
      by_cases h2 : x = a
      · subst h2
        rw [if_pos (by omega), Memory.byteAt?_store_same]
        simp
      · rw [if_neg (by omega), Memory.byteAt?_store_other _ _ h2]

end Sys2Proof.Machine
end

