-- ==== Sys2Proof/Laws/State.lean ====
section
/-! SUPPORT. One lemma per field of `State` and named update of Machine/Ops.lean: what the field holds after the update.
Later proofs use these and do not unfold an update. -/

namespace Sys2Proof.Machine

variable (s : State)

@[simp] theorem State.withResult_cfg (r : DWord) (n : Word) : (s.withResult r n).cfg = s.cfg := rfl
@[simp] theorem State.withResult_epoch (r : DWord) (n : Word) : (s.withResult r n).epoch = s.epoch := rfl
@[simp] theorem State.withResult_host (r : DWord) (n : Word) : (s.withResult r n).host = s.host := rfl
@[simp] theorem State.withResult_resp (r : DWord) (n : Word) : (s.withResult r n).resp = s.resp := rfl
@[simp] theorem State.withResult_cmd (r : DWord) (n : Word) : (s.withResult r n).cmd = s.cmd := rfl
@[simp] theorem State.withResult_err (r : DWord) (n : Word) : (s.withResult r n).err = s.err := rfl
@[simp] theorem State.withResult_errCode (r : DWord) (n : Word) : (s.withResult r n).errCode = s.errCode := rfl
@[simp] theorem State.withResult_off (r : DWord) (n : Word) : (s.withResult r n).off = s.off := rfl
@[simp] theorem State.withResult_len (r : DWord) (n : Word) : (s.withResult r n).len = s.len := rfl
@[simp] theorem State.withResult_val (r : DWord) (n : Word) : (s.withResult r n).val = s.val := rfl
@[simp] theorem State.withResult_res0 (r : DWord) (n : Word) : (s.withResult r n).res0 = r := rfl
@[simp] theorem State.withResult_res1 (r : DWord) (n : Word) : (s.withResult r n).res1 = s.res1 := rfl
@[simp] theorem State.withResult_consumed (r : DWord) (n : Word) : (s.withResult r n).consumed = n := rfl
@[simp] theorem State.withResult_limit (r : DWord) (n : Word) : (s.withResult r n).limit = s.limit := rfl
@[simp] theorem State.withResult_scaleVal (r : DWord) (n : Word) : (s.withResult r n).scaleVal = s.scaleVal := rfl
@[simp] theorem State.withResult_scalePb (r : DWord) (n : Word) : (s.withResult r n).scalePb = s.scalePb := rfl
@[simp] theorem State.withResult_angleSc (r : DWord) (n : Word) : (s.withResult r n).angleSc = s.angleSc := rfl
@[simp] theorem State.withResult_crcAlg (r : DWord) (n : Word) : (s.withResult r n).crcAlg = s.crcAlg := rfl
@[simp] theorem State.withResult_crcVen (r : DWord) (n : Word) : (s.withResult r n).crcVen = s.crcVen := rfl
@[simp] theorem State.withResult_irqEn (r : DWord) (n : Word) : (s.withResult r n).irqEn = s.irqEn := rfl
@[simp] theorem State.withResult_irqPend (r : DWord) (n : Word) : (s.withResult r n).irqPend = s.irqPend := rfl
@[simp] theorem State.withResult_hdr (r : DWord) (n : Word) : (s.withResult r n).hdr = s.hdr := rfl
@[simp] theorem State.withResult_sync (r : DWord) (n : Word) : (s.withResult r n).sync = s.sync := rfl
@[simp] theorem State.withResult_buf (r : DWord) (n : Word) : (s.withResult r n).buf = s.buf := rfl

@[simp] theorem State.withResults_cfg (r0 r1 : DWord) (n : Word) : (s.withResults r0 r1 n).cfg = s.cfg := rfl
@[simp] theorem State.withResults_epoch (r0 r1 : DWord) (n : Word) : (s.withResults r0 r1 n).epoch = s.epoch := rfl
@[simp] theorem State.withResults_host (r0 r1 : DWord) (n : Word) : (s.withResults r0 r1 n).host = s.host := rfl
@[simp] theorem State.withResults_resp (r0 r1 : DWord) (n : Word) : (s.withResults r0 r1 n).resp = s.resp := rfl
@[simp] theorem State.withResults_cmd (r0 r1 : DWord) (n : Word) : (s.withResults r0 r1 n).cmd = s.cmd := rfl
@[simp] theorem State.withResults_err (r0 r1 : DWord) (n : Word) : (s.withResults r0 r1 n).err = s.err := rfl
@[simp] theorem State.withResults_errCode (r0 r1 : DWord) (n : Word) : (s.withResults r0 r1 n).errCode = s.errCode := rfl
@[simp] theorem State.withResults_off (r0 r1 : DWord) (n : Word) : (s.withResults r0 r1 n).off = s.off := rfl
@[simp] theorem State.withResults_len (r0 r1 : DWord) (n : Word) : (s.withResults r0 r1 n).len = s.len := rfl
@[simp] theorem State.withResults_val (r0 r1 : DWord) (n : Word) : (s.withResults r0 r1 n).val = s.val := rfl
@[simp] theorem State.withResults_res0 (r0 r1 : DWord) (n : Word) : (s.withResults r0 r1 n).res0 = r0 := rfl
@[simp] theorem State.withResults_res1 (r0 r1 : DWord) (n : Word) : (s.withResults r0 r1 n).res1 = r1 := rfl
@[simp] theorem State.withResults_consumed (r0 r1 : DWord) (n : Word) : (s.withResults r0 r1 n).consumed = n := rfl
@[simp] theorem State.withResults_limit (r0 r1 : DWord) (n : Word) : (s.withResults r0 r1 n).limit = s.limit := rfl
@[simp] theorem State.withResults_scaleVal (r0 r1 : DWord) (n : Word) : (s.withResults r0 r1 n).scaleVal = s.scaleVal := rfl
@[simp] theorem State.withResults_scalePb (r0 r1 : DWord) (n : Word) : (s.withResults r0 r1 n).scalePb = s.scalePb := rfl
@[simp] theorem State.withResults_angleSc (r0 r1 : DWord) (n : Word) : (s.withResults r0 r1 n).angleSc = s.angleSc := rfl
@[simp] theorem State.withResults_crcAlg (r0 r1 : DWord) (n : Word) : (s.withResults r0 r1 n).crcAlg = s.crcAlg := rfl
@[simp] theorem State.withResults_crcVen (r0 r1 : DWord) (n : Word) : (s.withResults r0 r1 n).crcVen = s.crcVen := rfl
@[simp] theorem State.withResults_irqEn (r0 r1 : DWord) (n : Word) : (s.withResults r0 r1 n).irqEn = s.irqEn := rfl
@[simp] theorem State.withResults_irqPend (r0 r1 : DWord) (n : Word) : (s.withResults r0 r1 n).irqPend = s.irqPend := rfl
@[simp] theorem State.withResults_hdr (r0 r1 : DWord) (n : Word) : (s.withResults r0 r1 n).hdr = s.hdr := rfl
@[simp] theorem State.withResults_sync (r0 r1 : DWord) (n : Word) : (s.withResults r0 r1 n).sync = s.sync := rfl
@[simp] theorem State.withResults_buf (r0 r1 : DWord) (n : Word) : (s.withResults r0 r1 n).buf = s.buf := rfl

@[simp] theorem State.withStored_cfg (a n : Nat) (v : DWord) : (s.withStored a n v).cfg = s.cfg := rfl
@[simp] theorem State.withStored_epoch (a n : Nat) (v : DWord) : (s.withStored a n v).epoch = s.epoch := rfl
@[simp] theorem State.withStored_host (a n : Nat) (v : DWord) : (s.withStored a n v).host = s.host := rfl
@[simp] theorem State.withStored_resp (a n : Nat) (v : DWord) : (s.withStored a n v).resp = s.resp := rfl
@[simp] theorem State.withStored_cmd (a n : Nat) (v : DWord) : (s.withStored a n v).cmd = s.cmd := rfl
@[simp] theorem State.withStored_err (a n : Nat) (v : DWord) : (s.withStored a n v).err = s.err := rfl
@[simp] theorem State.withStored_errCode (a n : Nat) (v : DWord) : (s.withStored a n v).errCode = s.errCode := rfl
@[simp] theorem State.withStored_off (a n : Nat) (v : DWord) : (s.withStored a n v).off = s.off := rfl
@[simp] theorem State.withStored_len (a n : Nat) (v : DWord) : (s.withStored a n v).len = s.len := rfl
@[simp] theorem State.withStored_val (a n : Nat) (v : DWord) : (s.withStored a n v).val = s.val := rfl
@[simp] theorem State.withStored_res0 (a n : Nat) (v : DWord) : (s.withStored a n v).res0 = s.res0 := rfl
@[simp] theorem State.withStored_res1 (a n : Nat) (v : DWord) : (s.withStored a n v).res1 = s.res1 := rfl
@[simp] theorem State.withStored_consumed (a n : Nat) (v : DWord) : (s.withStored a n v).consumed = BitVec.ofNat 32 n := rfl
@[simp] theorem State.withStored_limit (a n : Nat) (v : DWord) : (s.withStored a n v).limit = s.limit := rfl
@[simp] theorem State.withStored_scaleVal (a n : Nat) (v : DWord) : (s.withStored a n v).scaleVal = s.scaleVal := rfl
@[simp] theorem State.withStored_scalePb (a n : Nat) (v : DWord) : (s.withStored a n v).scalePb = s.scalePb := rfl
@[simp] theorem State.withStored_angleSc (a n : Nat) (v : DWord) : (s.withStored a n v).angleSc = s.angleSc := rfl
@[simp] theorem State.withStored_crcAlg (a n : Nat) (v : DWord) : (s.withStored a n v).crcAlg = s.crcAlg := rfl
@[simp] theorem State.withStored_crcVen (a n : Nat) (v : DWord) : (s.withStored a n v).crcVen = s.crcVen := rfl
@[simp] theorem State.withStored_irqEn (a n : Nat) (v : DWord) : (s.withStored a n v).irqEn = s.irqEn := rfl
@[simp] theorem State.withStored_irqPend (a n : Nat) (v : DWord) : (s.withStored a n v).irqPend = s.irqPend := rfl
@[simp] theorem State.withStored_hdr (a n : Nat) (v : DWord) : (s.withStored a n v).hdr = s.hdr := rfl
@[simp] theorem State.withStored_sync (a n : Nat) (v : DWord) : (s.withStored a n v).sync = s.sync := rfl
@[simp] theorem State.withStored_buf (a n : Nat) (v : DWord) : (s.withStored a n v).buf = Memory.storeBytes s.buf a (beBytes n v) := rfl

@[simp] theorem State.withHeader_cfg (h : HdrRegs) (n : Word) : (s.withHeader h n).cfg = s.cfg := rfl
@[simp] theorem State.withHeader_epoch (h : HdrRegs) (n : Word) : (s.withHeader h n).epoch = s.epoch := rfl
@[simp] theorem State.withHeader_host (h : HdrRegs) (n : Word) : (s.withHeader h n).host = s.host := rfl
@[simp] theorem State.withHeader_resp (h : HdrRegs) (n : Word) : (s.withHeader h n).resp = s.resp := rfl
@[simp] theorem State.withHeader_cmd (h : HdrRegs) (n : Word) : (s.withHeader h n).cmd = s.cmd := rfl
@[simp] theorem State.withHeader_err (h : HdrRegs) (n : Word) : (s.withHeader h n).err = s.err := rfl
@[simp] theorem State.withHeader_errCode (h : HdrRegs) (n : Word) : (s.withHeader h n).errCode = s.errCode := rfl
@[simp] theorem State.withHeader_off (h : HdrRegs) (n : Word) : (s.withHeader h n).off = s.off := rfl
@[simp] theorem State.withHeader_len (h : HdrRegs) (n : Word) : (s.withHeader h n).len = s.len := rfl
@[simp] theorem State.withHeader_val (h : HdrRegs) (n : Word) : (s.withHeader h n).val = s.val := rfl
@[simp] theorem State.withHeader_res0 (h : HdrRegs) (n : Word) : (s.withHeader h n).res0 = s.res0 := rfl
@[simp] theorem State.withHeader_res1 (h : HdrRegs) (n : Word) : (s.withHeader h n).res1 = s.res1 := rfl
@[simp] theorem State.withHeader_consumed (h : HdrRegs) (n : Word) : (s.withHeader h n).consumed = n := rfl
@[simp] theorem State.withHeader_limit (h : HdrRegs) (n : Word) : (s.withHeader h n).limit = s.limit := rfl
@[simp] theorem State.withHeader_scaleVal (h : HdrRegs) (n : Word) : (s.withHeader h n).scaleVal = s.scaleVal := rfl
@[simp] theorem State.withHeader_scalePb (h : HdrRegs) (n : Word) : (s.withHeader h n).scalePb = s.scalePb := rfl
@[simp] theorem State.withHeader_angleSc (h : HdrRegs) (n : Word) : (s.withHeader h n).angleSc = s.angleSc := rfl
@[simp] theorem State.withHeader_crcAlg (h : HdrRegs) (n : Word) : (s.withHeader h n).crcAlg = s.crcAlg := rfl
@[simp] theorem State.withHeader_crcVen (h : HdrRegs) (n : Word) : (s.withHeader h n).crcVen = s.crcVen := rfl
@[simp] theorem State.withHeader_irqEn (h : HdrRegs) (n : Word) : (s.withHeader h n).irqEn = s.irqEn := rfl
@[simp] theorem State.withHeader_irqPend (h : HdrRegs) (n : Word) : (s.withHeader h n).irqPend = s.irqPend := rfl
@[simp] theorem State.withHeader_hdr (h : HdrRegs) (n : Word) : (s.withHeader h n).hdr = h := rfl
@[simp] theorem State.withHeader_sync (h : HdrRegs) (n : Word) : (s.withHeader h n).sync = s.sync := rfl
@[simp] theorem State.withHeader_buf (h : HdrRegs) (n : Word) : (s.withHeader h n).buf = s.buf := rfl

@[simp] theorem State.withDataLength_cfg (d : Nat) : (s.withDataLength d).cfg = s.cfg := rfl
@[simp] theorem State.withDataLength_epoch (d : Nat) : (s.withDataLength d).epoch = s.epoch := rfl
@[simp] theorem State.withDataLength_host (d : Nat) : (s.withDataLength d).host = s.host := rfl
@[simp] theorem State.withDataLength_resp (d : Nat) : (s.withDataLength d).resp = s.resp := rfl
@[simp] theorem State.withDataLength_cmd (d : Nat) : (s.withDataLength d).cmd = s.cmd := rfl
@[simp] theorem State.withDataLength_err (d : Nat) : (s.withDataLength d).err = s.err := rfl
@[simp] theorem State.withDataLength_errCode (d : Nat) : (s.withDataLength d).errCode = s.errCode := rfl
@[simp] theorem State.withDataLength_off (d : Nat) : (s.withDataLength d).off = s.off := rfl
@[simp] theorem State.withDataLength_len (d : Nat) : (s.withDataLength d).len = s.len := rfl
@[simp] theorem State.withDataLength_val (d : Nat) : (s.withDataLength d).val = s.val := rfl
@[simp] theorem State.withDataLength_res0 (d : Nat) : (s.withDataLength d).res0 = BitVec.ofNat 64 (d + 16) := rfl
@[simp] theorem State.withDataLength_res1 (d : Nat) : (s.withDataLength d).res1 = s.res1 := rfl
@[simp] theorem State.withDataLength_consumed (d : Nat) : (s.withDataLength d).consumed = s.consumed := rfl
@[simp] theorem State.withDataLength_limit (d : Nat) : (s.withDataLength d).limit = s.limit := rfl
@[simp] theorem State.withDataLength_scaleVal (d : Nat) : (s.withDataLength d).scaleVal = s.scaleVal := rfl
@[simp] theorem State.withDataLength_scalePb (d : Nat) : (s.withDataLength d).scalePb = s.scalePb := rfl
@[simp] theorem State.withDataLength_angleSc (d : Nat) : (s.withDataLength d).angleSc = s.angleSc := rfl
@[simp] theorem State.withDataLength_crcAlg (d : Nat) : (s.withDataLength d).crcAlg = s.crcAlg := rfl
@[simp] theorem State.withDataLength_crcVen (d : Nat) : (s.withDataLength d).crcVen = s.crcVen := rfl
@[simp] theorem State.withDataLength_irqEn (d : Nat) : (s.withDataLength d).irqEn = s.irqEn := rfl
@[simp] theorem State.withDataLength_irqPend (d : Nat) : (s.withDataLength d).irqPend = s.irqPend := rfl
@[simp] theorem State.withDataLength_hdr (d : Nat) : (s.withDataLength d).hdr = { s.hdr with dlen := BitVec.ofNat 16 d, flen := BitVec.ofNat 16 (d + 16) } := rfl
@[simp] theorem State.withDataLength_sync (d : Nat) : (s.withDataLength d).sync = s.sync := rfl
@[simp] theorem State.withDataLength_buf (d : Nat) : (s.withDataLength d).buf = s.buf := rfl

@[simp] theorem State.withSync_cfg (y : Sync) : (s.withSync y).cfg = s.cfg := rfl
@[simp] theorem State.withSync_epoch (y : Sync) : (s.withSync y).epoch = s.epoch := rfl
@[simp] theorem State.withSync_host (y : Sync) : (s.withSync y).host = s.host := rfl
@[simp] theorem State.withSync_resp (y : Sync) : (s.withSync y).resp = s.resp := rfl
@[simp] theorem State.withSync_cmd (y : Sync) : (s.withSync y).cmd = s.cmd := rfl
@[simp] theorem State.withSync_err (y : Sync) : (s.withSync y).err = s.err := rfl
@[simp] theorem State.withSync_errCode (y : Sync) : (s.withSync y).errCode = s.errCode := rfl
@[simp] theorem State.withSync_off (y : Sync) : (s.withSync y).off = s.off := rfl
@[simp] theorem State.withSync_len (y : Sync) : (s.withSync y).len = s.len := rfl
@[simp] theorem State.withSync_val (y : Sync) : (s.withSync y).val = s.val := rfl
@[simp] theorem State.withSync_res0 (y : Sync) : (s.withSync y).res0 = s.res0 := rfl
@[simp] theorem State.withSync_res1 (y : Sync) : (s.withSync y).res1 = s.res1 := rfl
@[simp] theorem State.withSync_consumed (y : Sync) : (s.withSync y).consumed = s.consumed := rfl
@[simp] theorem State.withSync_limit (y : Sync) : (s.withSync y).limit = s.limit := rfl
@[simp] theorem State.withSync_scaleVal (y : Sync) : (s.withSync y).scaleVal = s.scaleVal := rfl
@[simp] theorem State.withSync_scalePb (y : Sync) : (s.withSync y).scalePb = s.scalePb := rfl
@[simp] theorem State.withSync_angleSc (y : Sync) : (s.withSync y).angleSc = s.angleSc := rfl
@[simp] theorem State.withSync_crcAlg (y : Sync) : (s.withSync y).crcAlg = s.crcAlg := rfl
@[simp] theorem State.withSync_crcVen (y : Sync) : (s.withSync y).crcVen = s.crcVen := rfl
@[simp] theorem State.withSync_irqEn (y : Sync) : (s.withSync y).irqEn = s.irqEn := rfl
@[simp] theorem State.withSync_irqPend (y : Sync) : (s.withSync y).irqPend = s.irqPend := rfl
@[simp] theorem State.withSync_hdr (y : Sync) : (s.withSync y).hdr = s.hdr := rfl
@[simp] theorem State.withSync_sync (y : Sync) : (s.withSync y).sync = y := rfl
@[simp] theorem State.withSync_buf (y : Sync) : (s.withSync y).buf = s.buf := rfl

@[simp] theorem State.withFeed_cfg (f : FeedRun) : (s.withFeed f).cfg = s.cfg := rfl
@[simp] theorem State.withFeed_epoch (f : FeedRun) : (s.withFeed f).epoch = s.epoch := rfl
@[simp] theorem State.withFeed_host (f : FeedRun) : (s.withFeed f).host = s.host := rfl
@[simp] theorem State.withFeed_resp (f : FeedRun) : (s.withFeed f).resp = s.resp := rfl
@[simp] theorem State.withFeed_cmd (f : FeedRun) : (s.withFeed f).cmd = s.cmd := rfl
@[simp] theorem State.withFeed_err (f : FeedRun) : (s.withFeed f).err = s.err := rfl
@[simp] theorem State.withFeed_errCode (f : FeedRun) : (s.withFeed f).errCode = s.errCode := rfl
@[simp] theorem State.withFeed_off (f : FeedRun) : (s.withFeed f).off = s.off := rfl
@[simp] theorem State.withFeed_len (f : FeedRun) : (s.withFeed f).len = s.len := rfl
@[simp] theorem State.withFeed_val (f : FeedRun) : (s.withFeed f).val = s.val := rfl
@[simp] theorem State.withFeed_res0 (f : FeedRun) : (s.withFeed f).res0 = BitVec.ofNat 64 f.taken := rfl
@[simp] theorem State.withFeed_res1 (f : FeedRun) : (s.withFeed f).res1 = s.res1 := rfl
@[simp] theorem State.withFeed_consumed (f : FeedRun) : (s.withFeed f).consumed = BitVec.ofNat 32 f.taken := rfl
@[simp] theorem State.withFeed_limit (f : FeedRun) : (s.withFeed f).limit = s.limit := rfl
@[simp] theorem State.withFeed_scaleVal (f : FeedRun) : (s.withFeed f).scaleVal = s.scaleVal := rfl
@[simp] theorem State.withFeed_scalePb (f : FeedRun) : (s.withFeed f).scalePb = s.scalePb := rfl
@[simp] theorem State.withFeed_angleSc (f : FeedRun) : (s.withFeed f).angleSc = s.angleSc := rfl
@[simp] theorem State.withFeed_crcAlg (f : FeedRun) : (s.withFeed f).crcAlg = s.crcAlg := rfl
@[simp] theorem State.withFeed_crcVen (f : FeedRun) : (s.withFeed f).crcVen = s.crcVen := rfl
@[simp] theorem State.withFeed_irqEn (f : FeedRun) : (s.withFeed f).irqEn = s.irqEn := rfl
@[simp] theorem State.withFeed_irqPend (f : FeedRun) : (s.withFeed f).irqPend = f.run.pend := rfl
@[simp] theorem State.withFeed_hdr (f : FeedRun) : (s.withFeed f).hdr = s.hdr := rfl
@[simp] theorem State.withFeed_sync (f : FeedRun) : (s.withFeed f).sync = f.run.sync := rfl
@[simp] theorem State.withFeed_buf (f : FeedRun) : (s.withFeed f).buf = s.buf := rfl

@[simp] theorem State.withResp_cfg (r : BusResponse) : (s.withResp r).cfg = s.cfg := rfl
@[simp] theorem State.withResp_epoch (r : BusResponse) : (s.withResp r).epoch = s.epoch := rfl
@[simp] theorem State.withResp_host (r : BusResponse) : (s.withResp r).host = s.host := rfl
@[simp] theorem State.withResp_resp (r : BusResponse) : (s.withResp r).resp = r := rfl
@[simp] theorem State.withResp_cmd (r : BusResponse) : (s.withResp r).cmd = s.cmd := rfl
@[simp] theorem State.withResp_err (r : BusResponse) : (s.withResp r).err = s.err := rfl
@[simp] theorem State.withResp_errCode (r : BusResponse) : (s.withResp r).errCode = s.errCode := rfl
@[simp] theorem State.withResp_off (r : BusResponse) : (s.withResp r).off = s.off := rfl
@[simp] theorem State.withResp_len (r : BusResponse) : (s.withResp r).len = s.len := rfl
@[simp] theorem State.withResp_val (r : BusResponse) : (s.withResp r).val = s.val := rfl
@[simp] theorem State.withResp_res0 (r : BusResponse) : (s.withResp r).res0 = s.res0 := rfl
@[simp] theorem State.withResp_res1 (r : BusResponse) : (s.withResp r).res1 = s.res1 := rfl
@[simp] theorem State.withResp_consumed (r : BusResponse) : (s.withResp r).consumed = s.consumed := rfl
@[simp] theorem State.withResp_limit (r : BusResponse) : (s.withResp r).limit = s.limit := rfl
@[simp] theorem State.withResp_scaleVal (r : BusResponse) : (s.withResp r).scaleVal = s.scaleVal := rfl
@[simp] theorem State.withResp_scalePb (r : BusResponse) : (s.withResp r).scalePb = s.scalePb := rfl
@[simp] theorem State.withResp_angleSc (r : BusResponse) : (s.withResp r).angleSc = s.angleSc := rfl
@[simp] theorem State.withResp_crcAlg (r : BusResponse) : (s.withResp r).crcAlg = s.crcAlg := rfl
@[simp] theorem State.withResp_crcVen (r : BusResponse) : (s.withResp r).crcVen = s.crcVen := rfl
@[simp] theorem State.withResp_irqEn (r : BusResponse) : (s.withResp r).irqEn = s.irqEn := rfl
@[simp] theorem State.withResp_irqPend (r : BusResponse) : (s.withResp r).irqPend = s.irqPend := rfl
@[simp] theorem State.withResp_hdr (r : BusResponse) : (s.withResp r).hdr = s.hdr := rfl
@[simp] theorem State.withResp_sync (r : BusResponse) : (s.withResp r).sync = s.sync := rfl
@[simp] theorem State.withResp_buf (r : BusResponse) : (s.withResp r).buf = s.buf := rfl

@[simp] theorem State.succeed_cfg : s.succeed.cfg = s.cfg := rfl
@[simp] theorem State.succeed_epoch : s.succeed.epoch = s.epoch := rfl
@[simp] theorem State.succeed_host : s.succeed.host = s.host := rfl
@[simp] theorem State.succeed_resp : s.succeed.resp = s.resp := rfl
@[simp] theorem State.succeed_cmd : s.succeed.cmd = s.cmd := rfl
@[simp] theorem State.succeed_err : s.succeed.err = false := rfl
@[simp] theorem State.succeed_errCode : s.succeed.errCode = 0 := rfl
@[simp] theorem State.succeed_off : s.succeed.off = s.off := rfl
@[simp] theorem State.succeed_len : s.succeed.len = s.len := rfl
@[simp] theorem State.succeed_val : s.succeed.val = s.val := rfl
@[simp] theorem State.succeed_res0 : s.succeed.res0 = s.res0 := rfl
@[simp] theorem State.succeed_res1 : s.succeed.res1 = s.res1 := rfl
@[simp] theorem State.succeed_consumed : s.succeed.consumed = s.consumed := rfl
@[simp] theorem State.succeed_limit : s.succeed.limit = s.limit := rfl
@[simp] theorem State.succeed_scaleVal : s.succeed.scaleVal = s.scaleVal := rfl
@[simp] theorem State.succeed_scalePb : s.succeed.scalePb = s.scalePb := rfl
@[simp] theorem State.succeed_angleSc : s.succeed.angleSc = s.angleSc := rfl
@[simp] theorem State.succeed_crcAlg : s.succeed.crcAlg = s.crcAlg := rfl
@[simp] theorem State.succeed_crcVen : s.succeed.crcVen = s.crcVen := rfl
@[simp] theorem State.succeed_irqEn : s.succeed.irqEn = s.irqEn := rfl
@[simp] theorem State.succeed_irqPend : s.succeed.irqPend = s.irqPend := rfl
@[simp] theorem State.succeed_hdr : s.succeed.hdr = s.hdr := rfl
@[simp] theorem State.succeed_sync : s.succeed.sync = s.sync := rfl
@[simp] theorem State.succeed_buf : s.succeed.buf = s.buf := rfl

@[simp] theorem State.fail_cfg (e : CmdError) : (s.fail e).cfg = s.cfg := rfl
@[simp] theorem State.fail_epoch (e : CmdError) : (s.fail e).epoch = s.epoch := rfl
@[simp] theorem State.fail_host (e : CmdError) : (s.fail e).host = s.host := rfl
@[simp] theorem State.fail_resp (e : CmdError) : (s.fail e).resp = s.resp := rfl
@[simp] theorem State.fail_cmd (e : CmdError) : (s.fail e).cmd = s.cmd := rfl
@[simp] theorem State.fail_err (e : CmdError) : (s.fail e).err = true := rfl
@[simp] theorem State.fail_errCode (e : CmdError) : (s.fail e).errCode = e.code := rfl
@[simp] theorem State.fail_off (e : CmdError) : (s.fail e).off = s.off := rfl
@[simp] theorem State.fail_len (e : CmdError) : (s.fail e).len = s.len := rfl
@[simp] theorem State.fail_val (e : CmdError) : (s.fail e).val = s.val := rfl
@[simp] theorem State.fail_res0 (e : CmdError) : (s.fail e).res0 = s.res0 := rfl
@[simp] theorem State.fail_res1 (e : CmdError) : (s.fail e).res1 = s.res1 := rfl
@[simp] theorem State.fail_consumed (e : CmdError) : (s.fail e).consumed = s.consumed := rfl
@[simp] theorem State.fail_limit (e : CmdError) : (s.fail e).limit = s.limit := rfl
@[simp] theorem State.fail_scaleVal (e : CmdError) : (s.fail e).scaleVal = s.scaleVal := rfl
@[simp] theorem State.fail_scalePb (e : CmdError) : (s.fail e).scalePb = s.scalePb := rfl
@[simp] theorem State.fail_angleSc (e : CmdError) : (s.fail e).angleSc = s.angleSc := rfl
@[simp] theorem State.fail_crcAlg (e : CmdError) : (s.fail e).crcAlg = s.crcAlg := rfl
@[simp] theorem State.fail_crcVen (e : CmdError) : (s.fail e).crcVen = s.crcVen := rfl
@[simp] theorem State.fail_irqEn (e : CmdError) : (s.fail e).irqEn = s.irqEn := rfl
@[simp] theorem State.fail_irqPend (e : CmdError) : (s.fail e).irqPend = setPending s.irqPend 2 := rfl
@[simp] theorem State.fail_hdr (e : CmdError) : (s.fail e).hdr = s.hdr := rfl
@[simp] theorem State.fail_sync (e : CmdError) : (s.fail e).sync = s.sync := rfl
@[simp] theorem State.fail_buf (e : CmdError) : (s.fail e).buf = s.buf := rfl

end Sys2Proof.Machine
end

