-- ==== Sys2Proof/Laws/Ops.lean ====
section
/-! SUPPORT. What each shared operation can do, said once: the end of a command, the operand read, the synchronizer's step
and one turn of FEED's loop. -/

namespace Sys2Proof.Machine

/-! ### The end of a command -/

@[simp] theorem finish_ok (s t : State) : finish s (.ok t) = .next t.succeed := rfl

@[simp] theorem finish_error (s : State) (e : CmdError) : finish s (.error e) = .next (s.fail e) := rfl

/-- A command always answers a next state, by one of the two ends. -/
theorem finish_cases (s : State) (o : Except CmdError State) :
    (∃ t, o = .ok t ∧ finish s o = .next t.succeed) ∨ (∃ e, o = .error e ∧ finish s o = .next (s.fail e)) := by
  cases o with
  | ok t => exact .inl ⟨t, rfl, rfl⟩
  | error e => exact .inr ⟨e, rfl, rfl⟩

theorem CmdError.code_ne_zero (e : CmdError) : e.code ≠ 0 := by cases e <;> decide

theorem CmdError.code_le (e : CmdError) : e.code.toNat ≤ 8 := by cases e <;> decide

/-! ### The operand -/

@[simp] theorem State.memRead_length (s : State) (sp : Space) (a n : Nat) : (s.memRead sp a n).length = n := by
  simp [State.memRead]

theorem State.operand_ok {s : State} {sp : Space} {n : Nat} (h : s.off.toNat + n ≤ s.limitOf sp) :
    s.operand sp n = .ok (s.memRead sp s.off.toNat n) := by
  simp [State.operand, State.inBounds, h]

theorem State.operand_error {s : State} {sp : Space} {n : Nat} (h : s.limitOf sp < s.off.toNat + n) :
    s.operand sp n = .error .bufferTooShort := by
  simp [State.operand, State.inBounds]; omega

@[simp] theorem beBytes_length (n : Nat) (v : DWord) : (beBytes n v).length = n := by simp [beBytes]

/-! ### Checksums -/

theorem crcCcitt_append (xs ys : List Byte) : crcCcitt (xs ++ ys) = ys.foldl ccittByte (crcCcitt xs) := by
  simp [crcCcitt, List.foldl_append]

/-! ### The synchronizer -/

/-- The header check fails for two reasons only, which are the causes a resync at the header stage can record. -/
theorem hdrCheck_cases (b1 : Byte) (fl : Nat) :
    hdrCheck b1 fl = some .invalidFrameTypeOrVersion ∨
    (hdrCheck b1 fl = some .frameLengthTooShort ∧ fl < 16) ∨
    (hdrCheck b1 fl = none ∧ 16 ≤ fl ∧ typeCode b1 ≠ 6 ∧ typeCode b1 ≠ 7 ∧ (versionCode b1).toNat ≤ 3) := by
  unfold hdrCheck minFrameLen versionMax
  split
  · exact .inl rfl
  · split
    · exact .inr (.inl ⟨rfl, ‹_›⟩)
    · rename_i h1 h2
      simp only [not_or] at h1
      exact .inr (.inr ⟨rfl, by omega, h1.1, h1.2.1, by omega⟩)

/-- The candidate with one more byte. -/
def SyncRun.push (r : SyncRun) (b : Byte) : SyncRun :=
  { r with sync := { r.sync with acc := r.sync.acc ++ [b] } }

/-- Everything the synchronizer's step can do outside DISPATCH. -/
theorem syncStep_cases (e : SyncEnv) (b : Byte) (r : SyncRun) (h : r.sync.state ≠ .dispatch) :
    (r.sync.state = .seeking ∧ b = syncByte ∧
      syncStep e b r = { r with sync := { r.sync with acc := [b], state := .hdrBuf } }) ∨
    (r.sync.state = .seeking ∧ b ≠ syncByte ∧
      syncStep e b r = { r with sync := { r.sync with skipCnt := r.sync.skipCnt + 1 } }) ∨
    (r.sync.state = .hdrBuf ∧ r.sync.acc.length + 1 ≠ 14 ∧ syncStep e b r = r.push b) ∨
    (r.sync.state = .hdrBuf ∧ r.sync.acc.length + 1 = 14 ∧ syncStep e b r = checkHeader (r.push b)) ∨
    (r.sync.state = .bodyBuf ∧ r.sync.acc.length + 1 ≠ r.sync.frameLen.toNat ∧ syncStep e b r = r.push b) ∨
    (r.sync.state = .bodyBuf ∧ r.sync.acc.length + 1 = r.sync.frameLen.toNat ∧
      syncStep e b r = completeFrame e (r.push b)) := by
  cases hs : r.sync.state with
  | seeking => by_cases hb : b = syncByte <;> simp [syncStep, hs, hb]
  | hdrBuf => by_cases hl : r.sync.acc.length + 1 = 14 <;> simp [syncStep, hs, hl, headerLen, SyncRun.push]
  | bodyBuf =>
    by_cases hl : r.sync.acc.length + 1 = r.sync.frameLen.toNat <;> simp [syncStep, hs, hl, SyncRun.push]
  | dispatch => exact absurd hs h

/-- Everything one turn of FEED's loop can do. -/
theorem feedTurn_cases (e : SyncEnv) (f : FeedRun) :
    (f.run.sync.state = .dispatch ∧ feedTurn e f = none) ∨
    (f.run.sync.state ≠ .dispatch ∧ ∃ b rest, f.run.sync.replay = b :: rest ∧
      feedTurn e f = some { f with run := syncStep e b { f.run with sync := { f.run.sync with replay := rest } } }) ∨
    (f.run.sync.state ≠ .dispatch ∧ f.run.sync.replay = [] ∧ ∃ b rest, f.input = b :: rest ∧
      feedTurn e f = some {
        run := syncStep e b { f.run with sync := { f.run.sync with streamPos := f.run.sync.streamPos + 1 } }
        input := rest
        taken := f.taken + 1 }) ∨
    (f.run.sync.state ≠ .dispatch ∧ f.run.sync.replay = [] ∧ f.input = [] ∧ feedTurn e f = none) := by
  by_cases hs : f.run.sync.state = .dispatch
  · exact .inl ⟨hs, by simp [feedTurn, hs]⟩
  · refine .inr ?_
    cases hr : f.run.sync.replay with
    | cons b rest =>
      refine .inl ⟨hs, b, rest, rfl, ?_⟩
      unfold feedTurn
      split
      · contradiction
      · simp [hr]
    | nil =>
      refine .inr ?_
      cases hi : f.input with
      | cons b rest =>
        refine .inl ⟨hs, rfl, b, rest, rfl, ?_⟩
        unfold feedTurn
        split
        · contradiction
        · simp [hr, hi]
      | nil =>
        refine .inr ⟨hs, rfl, rfl, ?_⟩
        unfold feedTurn
        split
        · rfl
        · simp [hr, hi]

theorem feedLoop_exit {e : SyncEnv} {f : FeedRun} (h : feedTurn e f = none) (fuel : Nat) : feedLoop e fuel f = f := by
  cases fuel with
  | zero => rfl
  | succ n => simp [feedLoop, h]

theorem feedLoop_turn {e : SyncEnv} {f f' : FeedRun} (h : feedTurn e f = some f') (fuel : Nat) :
    feedLoop e (fuel + 1) f = feedLoop e fuel f' := by
  simp [feedLoop, h]

end Sys2Proof.Machine
end

