-- ==== Sys2Proof/Laws/PerInstr.lean ====
section
/-! SUPPORT. Facts about every instruction as syntax, one lemma per constructor: it is well formed, and its word splits
into its fields. -/

namespace Sys2Proof.Laws.WordShape

open Sys2Proof

/-- R300, R301: the instruction's fields are legal ones, and its word holds exactly them. -/
def Statement (i : Instr) : Prop := i.wellFormed = true ∧ splitWord (encode i) = i.fields

theorem nop : Statement .nop := ⟨by decide, by decide⟩

theorem rdu8 (sp : Space) : Statement (.rdu8 sp) := by cases sp <;> exact ⟨by decide, by decide⟩

theorem rdu16 (sp : Space) : Statement (.rdu16 sp) := by cases sp <;> exact ⟨by decide, by decide⟩

theorem rdu24 (sp : Space) : Statement (.rdu24 sp) := by cases sp <;> exact ⟨by decide, by decide⟩

theorem rdu32 (sp : Space) : Statement (.rdu32 sp) := by cases sp <;> exact ⟨by decide, by decide⟩

theorem rdi16 (sp : Space) : Statement (.rdi16 sp) := by cases sp <;> exact ⟨by decide, by decide⟩

theorem rdf32 (sp : Space) : Statement (.rdf32 sp) := by cases sp <;> exact ⟨by decide, by decide⟩

theorem rdf64 (sp : Space) : Statement (.rdf64 sp) := by cases sp <;> exact ⟨by decide, by decide⟩

theorem wru8 : Statement .wru8 := ⟨by decide, by decide⟩

theorem wru16 : Statement .wru16 := ⟨by decide, by decide⟩

theorem wru24 : Statement .wru24 := ⟨by decide, by decide⟩

theorem wru32 : Statement .wru32 := ⟨by decide, by decide⟩

theorem wri16 : Statement .wri16 := ⟨by decide, by decide⟩

theorem wrf32 : Statement .wrf32 := ⟨by decide, by decide⟩

theorem wrf64 : Statement .wrf64 := ⟨by decide, by decide⟩

theorem crcccitt (sp : Space) : Statement (.crcccitt sp) := by cases sp <;> exact ⟨by decide, by decide⟩

theorem crc16 (sp : Space) : Statement (.crc16 sp) := by cases sp <;> exact ⟨by decide, by decide⟩

theorem chkccitt (sp : Space) : Statement (.chkccitt sp) := by cases sp <;> exact ⟨by decide, by decide⟩

theorem chk16 (sp : Space) : Statement (.chk16 sp) := by cases sp <;> exact ⟨by decide, by decide⟩

theorem hdrparse (sp : Space) : Statement (.hdrparse sp) := by cases sp <;> exact ⟨by decide, by decide⟩

theorem setdlen : Statement .setdlen := ⟨by decide, by decide⟩

theorem decf32 (sp : Space) : Statement (.decf32 sp) := by cases sp <;> exact ⟨by decide, by decide⟩

theorem decfix (sp : Space) : Statement (.decfix sp) := by cases sp <;> exact ⟨by decide, by decide⟩

theorem decph (sp : Space) (f : PhasorFormat) (p : PhasorCoords) : Statement (.decph sp f p) := by
  cases sp <;> cases f <;> cases p <;> exact ⟨by decide, by decide⟩

theorem feed : Statement .feed := ⟨by decide, by decide⟩

theorem frameack : Statement .frameack := ⟨by decide, by decide⟩

theorem syncreset : Statement .syncreset := ⟨by decide, by decide⟩

end Sys2Proof.Laws.WordShape
end

