-- ==== Sys2Proof/Tests/Slice0.lean ====
section
/-! SUPPORT. Tests of the model. Every expected value is the spec's: the tables and examples of its rules and the vectors of
95_test_vectors.md, named at each test. After them, for each statement of Certificates/Slice0/Obligations.lean that has
hypotheses, a concrete state that meets them. -/

set_option Elab.async false

namespace Sys2Proof.Tests

open Sys2Proof Sys2Proof.Machine

/-! ### Helpers -/

/-- One field of the next state. -/
def after {α : Type} (o : Host.Outcome State Fault Refusal) (f : State → α) : Option α :=
  match o with
  | .next t => some (f t)
  | .fault _ => none
  | .refused _ => none

/-- The reset state with `BUF[0..]` written. -/
def withBuf (bs : List Byte) : State := { State.reset with buf := Memory.storeBytes [] 0 bs }

/-- 43_crc.md: `F_H`. -/
def frameH : List Byte :=
  [0xAA, 0x11, 0x00, 0x12, 0x00, 0x07, 0x5F, 0x3C, 0x8E, 0x80, 0x0F, 0x01, 0x86, 0xA0, 0x48, 0x49, 0x6C, 0x9B]

/-- 43_crc.md: `F_D`. -/
def frameD : List Byte :=
  [0xAA, 0x01, 0x00, 0x1E, 0x00, 0x07, 0x5F, 0x3C, 0x8E, 0x80, 0x0F, 0x01, 0x86, 0xA0, 0x00, 0x00, 0x30, 0x39, 0xFC,
   0x18, 0x7F, 0xFF, 0x80, 0x00, 0x00, 0x00, 0x00, 0x00, 0x58, 0x35]

/-- 41_field_extractor.md section 2: the bytes of the worked examples. -/
def extractorBytes : List Byte :=
  [0xAA, 0x31, 0x00, 0x12, 0xFF, 0x85, 0x80, 0x00, 0x3F, 0x80, 0x00, 0x00, 0xC0, 0x49, 0x0F, 0xDB, 0x40, 0x5E, 0xDC,
   0xCC, 0xCC, 0xCC, 0xCC, 0xCD]

/-- The state after `F_H` was dispatched (R472, example). -/
def dispatchedH : State :=
  { withBuf frameH with
    sync :=
      { Sync.reset with
        state := .dispatch, acc := frameH, frameType := 1, frameLen := 18, streamPos := 18, frameCnt := 1 }
    irqPend := 1 }

/-! ### Well-formedness: an ill-formed term for each check -/

/-- R300: a reserved bit is set (0x00001011, CT11). -/
theorem test_wf_refuses_reserved_bit :
    (CmdFields.rsvClear { CmdFields.plain 0x11 with rsv := 1 }) = false ∧
    (CmdFields.wellFormed { CmdFields.plain 0x11 with rsv := 1 }) = false := by decide

/-- R303: an opcode that is not listed (CT10). -/
theorem test_wf_refuses_unlisted_opcode :
    (CmdFields.plain 0xFF).opListed = false ∧ (CmdFields.plain 0xFF).wellFormed = false := by decide

/-- R301: a field that the opcode does not use is set (CT5). -/
theorem test_wf_refuses_unused_field :
    (CmdFields.unusedClear { CmdFields.plain 0x10 with a := true }) = false ∧
    (CmdFields.wellFormed { CmdFields.plain 0x10 with a := true }) = false := by decide

/-! ### Decoding: words written out from R300 and R303 -/

/-- R303, OP 0x00 and 0x10 to 0x16; RSV, P, F, A, SP, OP from left to right. -/
theorem test_decode_read_words :
    decodeTableWord 32 0b00000000000000000000_0_0_0_0_00000000 = some .nop ∧
    decodeTableWord 32 0b00000000000000000000_0_0_0_0_00010000 = some (.rdu8 .buf) ∧
    decodeTableWord 32 0b00000000000000000000_0_0_0_1_00010001 = some (.rdu16 .acc) ∧
    decodeTableWord 32 0b00000000000000000000_0_0_0_0_00010010 = some (.rdu24 .buf) ∧
    decodeTableWord 32 0b00000000000000000000_0_0_0_1_00010011 = some (.rdu32 .acc) ∧
    decodeTableWord 32 0b00000000000000000000_0_0_0_0_00010100 = some (.rdi16 .buf) ∧
    decodeTableWord 32 0b00000000000000000000_0_0_0_1_00010101 = some (.rdf32 .acc) ∧
    decodeTableWord 32 0b00000000000000000000_0_0_0_0_00010110 = some (.rdf64 .buf) := by decide +kernel

/-- R303, OP 0x20 to 0x26. -/
theorem test_decode_write_words :
    decodeTableWord 32 0b00000000000000000000_0_0_0_0_00100000 = some .wru8 ∧
    decodeTableWord 32 0b00000000000000000000_0_0_0_0_00100001 = some .wru16 ∧
    decodeTableWord 32 0b00000000000000000000_0_0_0_0_00100010 = some .wru24 ∧
    decodeTableWord 32 0b00000000000000000000_0_0_0_0_00100011 = some .wru32 ∧
    decodeTableWord 32 0b00000000000000000000_0_0_0_0_00100100 = some .wri16 ∧
    decodeTableWord 32 0b00000000000000000000_0_0_0_0_00100101 = some .wrf32 ∧
    decodeTableWord 32 0b00000000000000000000_0_0_0_0_00100110 = some .wrf64 := by decide +kernel

/-- R303, OP 0x30 to 0x41. -/
theorem test_decode_frame_words :
    decodeTableWord 32 0b00000000000000000000_0_0_0_1_00110000 = some (.crcccitt .acc) ∧
    decodeTableWord 32 0b00000000000000000000_0_0_1_0_00110000 = some (.crc16 .buf) ∧
    decodeTableWord 32 0b00000000000000000000_0_0_0_0_00110001 = some (.chkccitt .buf) ∧
    decodeTableWord 32 0b00000000000000000000_0_0_1_1_00110001 = some (.chk16 .acc) ∧
    decodeTableWord 32 0b00000000000000000000_0_0_0_1_01000000 = some (.hdrparse .acc) ∧
    decodeTableWord 32 0b00000000000000000000_0_0_0_0_01000001 = some .setdlen := by decide +kernel

/-- R303, OP 0x50 to 0x62; R457's words of DECPH. -/
theorem test_decode_numeric_and_stream_words :
    decodeTableWord 32 0b00000000000000000000_0_0_0_1_01010000 = some (.decf32 .acc) ∧
    decodeTableWord 32 0b00000000000000000000_0_0_0_0_01010001 = some (.decfix .buf) ∧
    decodeTableWord 32 0b00000000000000000000_0_1_0_0_01010010 = some (.decph .buf .float .rect) ∧
    decodeTableWord 32 0b00000000000000000000_1_0_0_0_01010010 = some (.decph .buf .fixed .polar) ∧
    decodeTableWord 32 0b00000000000000000000_1_1_0_1_01010010 = some (.decph .acc .float .polar) ∧
    decodeTableWord 32 0b00000000000000000000_0_0_0_0_01100000 = some .feed ∧
    decodeTableWord 32 0b00000000000000000000_0_0_0_0_01100001 = some .frameack ∧
    decodeTableWord 32 0b00000000000000000000_0_0_0_0_01100010 = some .syncreset := by decide +kernel

/-- CT4 to CT11, EN15, CR28, SY17: words that are no command. -/
theorem test_decode_refuses_illegal_words :
    ∀ w ∈ [0x100, 0x210, 0x123, 0x431, 0x252, 0x1052, 0x80000052, 0x160, 0xFF, 0x1011],
      decodeTableWord 32 w = none := by decide +kernel

/-- R607: the name of the cause, a label of the model's. -/
theorem test_decode_names_the_cause :
    illegalCause (splitWord 0x1011) = .reservedBits ∧ illegalCause (splitWord 0xFF) = .unlistedOpcode ∧
    illegalCause (splitWord 0x210) = .unusedField := by decide +kernel

/-! ### The step -/

/-- CT3 through the host's queue: a word written to `CMD` is stored and run. -/
theorem test_step_runs_fetched_word :
    after (step ({ State.reset with err := true, errCode := 1, irqPend := 4 }.withFetchWord 32 0))
      (fun t => (t.err, t.errCode, t.irqPend, t.host)) = some (false, 0, 4, []) := by decide +kernel

/-- CT11, CT12: an illegal word, with the interrupt enabled. -/
theorem test_step_illegal_word :
    after (step ({ State.reset with irqEn := 7 }.withFetchWord 32 0x1011))
      (fun t => (t.cmd, t.errCode, t.irqPend, t.status)) = some (0x1011, 7, 4, 0x9) := by decide +kernel

/-! ### Commands -/

/-- EX1, EX2. -/
theorem test_rdu8 :
    after (exec (.rdu8 .buf) { withBuf extractorBytes with off := 1 }) (fun t => (t.res0, t.consumed)) =
      some (0x31, 1) := by decide +kernel

/-- EX4: not sign-extended. -/
theorem test_rdu16 :
    after (exec (.rdu16 .buf) { withBuf extractorBytes with off := 4 }) (fun t => (t.res0, t.consumed)) =
      some (0xFF85, 2) := by decide +kernel

/-- EX21, EX22: from `ACC`, at its end and beyond. -/
theorem test_rdu16_acc :
    after (exec (.rdu16 .acc) { dispatchedH with off := 16 }) (·.res0) = some 0x6C9B ∧
    after (exec (.rdu16 .acc) { dispatchedH with off := 17 }) (·.errCode) = some 1 := by decide +kernel

/-- EX5. -/
theorem test_rdu24 :
    after (exec (.rdu24 .buf) { withBuf extractorBytes with off := 5 }) (fun t => (t.res0, t.consumed)) =
      some (0x858000, 3) := by decide +kernel

/-- EX13, EX14, EX19: the bound, and no wrap. -/
theorem test_rdu32_bounds :
    after (exec (.rdu32 .buf) { withBuf extractorBytes with off := 12, limit := 16 }) (·.res0) = some 0xC0490FDB ∧
    after (exec (.rdu32 .buf) { withBuf extractorBytes with off := 13, limit := 16, res0 := 5 })
      (fun t => (t.errCode, t.res0)) = some (1, 5) ∧
    after (exec (.rdu32 .buf) { withBuf extractorBytes with off := 0xFFFFFFFF }) (·.errCode) = some 1 := by
  decide +kernel

/-- EX8, EX9. -/
theorem test_rdi16 :
    after (exec (.rdi16 .buf) { withBuf extractorBytes with off := 4 }) (·.res0) = some 0xFFFFFFFFFFFFFF85 ∧
    after (exec (.rdi16 .buf) { withBuf extractorBytes with off := 6 }) (·.res0) = some 0xFFFFFFFFFFFF8000 := by
  decide +kernel

/-- EX11. -/
theorem test_rdf32 :
    after (exec (.rdf32 .buf) { withBuf extractorBytes with off := 8 }) (·.res0) = some 0x3F800000 := by decide +kernel

/-- EX12. -/
theorem test_rdf64 :
    after (exec (.rdf64 .buf) { withBuf extractorBytes with off := 16 }) (fun t => (t.res0, t.consumed)) =
      some (0x405EDCCCCCCCCCCD, 8) := by decide +kernel

/-- EN2. -/
theorem test_wru8 :
    after (exec .wru8 { State.reset with off := 1, val := 0x1AA }) (fun t => (t.buf, t.consumed)) =
      some ([(1, 0xAA)], 1) := by decide +kernel

/-- EN3. -/
theorem test_wru16 :
    after (exec .wru16 { State.reset with off := 2, val := 0x10012 }) (·.buf) = some [(2, 0x00), (3, 0x12)] := by
  decide +kernel

/-- EN4. -/
theorem test_wru24 :
    after (exec .wru24 { State.reset with off := 4, val := 0x0186A0 }) (·.buf) =
      some [(4, 0x01), (5, 0x86), (6, 0xA0)] := by decide +kernel

/-- EN13, EN14: no partial write. -/
theorem test_wru32 :
    after (exec .wru32 { State.reset with off := 97, val := 0x11223344, limit := 100 }) (fun t => (t.errCode, t.buf)) =
      some (1, []) ∧
    after (exec .wru32 { State.reset with off := 96, val := 0x11223344, limit := 100 }) (·.buf) =
      some [(96, 0x11), (97, 0x22), (98, 0x33), (99, 0x44)] := by decide +kernel

/-- EN6. -/
theorem test_wri16 :
    after (exec .wri16 { State.reset with off := 11, val := 0xFFFFFFFFFFFFFF85 }) (·.buf) =
      some [(11, 0xFF), (12, 0x85)] := by decide +kernel

/-- EN7. -/
theorem test_wrf32 :
    after (exec .wrf32 { State.reset with off := 13, val := 0x3FF0000000000000 }) (·.buf) =
      some [(13, 0), (14, 0), (15, 0), (16, 0)] := by decide +kernel

/-- EN8. -/
theorem test_wrf64 :
    after (exec .wrf64 { State.reset with off := 17, val := 0x405EDCCCCCCCCCCD }) (fun t => (t.buf.map (·.2), t.consumed)) =
      some ([0x40, 0x5E, 0xDC, 0xCC, 0xCC, 0xCC, 0xCC, 0xCD], 8) := by decide +kernel

/-- CR1: the check values of R431 and R432. -/
theorem test_crc_check_values :
    crcCcitt [0x31, 0x32, 0x33, 0x34, 0x35, 0x36, 0x37, 0x38, 0x39] = 0x29B1 ∧
    crc16 Config.default.crc16 [0x31, 0x32, 0x33, 0x34, 0x35, 0x36, 0x37, 0x38, 0x39] = 0xBB3D := by decide +kernel

/-- CR13, CR17. -/
theorem test_crcccitt :
    after (exec (.crcccitt .buf) { withBuf frameH with len := 16 }) (fun t => (t.res0, t.consumed)) =
      some (0x6C9B, 16) ∧
    after (exec (.crcccitt .buf) { withBuf frameH with len := 0 }) (·.res0) = some 0xFFFF := by decide +kernel

/-- CR14. -/
theorem test_crc16 :
    after (exec (.crc16 .buf) { withBuf frameH with len := 16 }) (·.res0) = some 0x82D5 := by decide +kernel

/-- CR15, CR19, CR20. -/
theorem test_chkccitt :
    after (exec (.chkccitt .buf) { withBuf frameH with len := 18 }) (fun t => (t.res0, t.res1, t.consumed)) =
      some (0x6C9B, 0x6C9B, 18) ∧
    after (exec (.chkccitt .buf) { withBuf frameH with len := 1 }) (·.errCode) = some 1 ∧
    after (exec (.chkccitt .buf) { withBuf frameH with len := 2 }) (·.errCode) = some 5 := by decide +kernel

/-- CR16, CR27. -/
theorem test_chk16 :
    after (exec (.chk16 .buf) { withBuf frameH with len := 18 }) (fun t => (t.errCode, t.res0)) = some (5, 0) ∧
    after (exec (.chk16 .buf) { withBuf [0, 0] with len := 2 }) (fun t => (t.errCode, t.res0)) = some (0, 0) := by
  decide +kernel

/-- HD1. -/
theorem test_hdrparse :
    after (exec (.hdrparse .buf) (withBuf frameH)) (fun t => (t.hdr, t.consumed)) =
      some
        ({  b7 := false, ftype := 1, ver := 1, flen := 18, id := 7, soc := 0x5F3C8E80, frac := 0x0186A0, tq := 0x0F
            dlen := 2 }, 14) := by decide +kernel

/-- HD17, HD18 and a wrong sync byte (HD12). -/
theorem test_hdrparse_errors :
    after (exec (.hdrparse .buf) { withBuf frameH with limit := 17 }) (·.errCode) = some 1 ∧
    after (exec (.hdrparse .buf) { withBuf frameH with limit := 18 }) (·.errCode) = some 0 ∧
    after (exec (.hdrparse .buf) (withBuf (0xAB :: 0x61 :: frameH.drop 2))) (·.errCode) = some 2 := by decide +kernel

/-- HD23, HD24, HD25. -/
theorem test_setdlen :
    after (exec .setdlen { State.reset with val := 14 }) (fun t => (t.hdr.dlen, t.hdr.flen, t.res0)) = some (14, 30, 30) ∧
    after (exec .setdlen { State.reset with val := 65519 }) (·.res0) = some 65535 ∧
    after (exec .setdlen { State.reset with val := 65520 }) (·.errCode) = some 4 := by decide +kernel

/-- NU1, NU4, NU7, NU9. -/
theorem test_decf32 :
    after (exec (.decf32 .buf) (withBuf [0x42, 0xF6, 0xE6, 0x66])) (·.res0) = some 0x405EDCCCC0000000 ∧
    cvtF32F64 0x00000001 = 0x36A0000000000000 ∧ cvtF32F64 0x7F800001 = 0x7FF8000020000000 ∧
    cvtF32F64 0xFFC00001 = 0xFFF8000020000000 := by decide +kernel

/-- NU13, NU20, NU24. -/
theorem test_decfix :
    after (exec (.decfix .buf) { withBuf [0x30, 0x39] with scaleVal := 1000 }) (fun t => (t.res0, t.consumed)) =
      some (0x405EDCCCCCCCCCCD, 2) ∧
    after (exec (.decfix .buf) { withBuf [0x80, 0x00] with scaleVal := 0 }) (·.res0) = some 0x8000000000000000 ∧
    after (exec (.decfix .buf) { withBuf [0, 0] with scaleVal := 1000, scalePb := 0x7FF0000000000000 }) (·.res0) =
      some 0x7FF8000000000000 := by decide +kernel

/-- NU27, NU29. -/
theorem test_decph_fixed :
    after (exec (.decph .buf .fixed .rect) { withBuf [0x30, 0x39, 0xFC, 0x18] with scaleVal := 1000 })
      (fun t => (t.res0, t.res1, t.consumed)) = some (0x405EDCCCCCCCCCCD, 0xC024000000000000, 4) ∧
    after (exec (.decph .buf .fixed .polar) { withBuf [0x80, 0x00, 0x85, 0x48] with scaleVal := 1000 })
      (fun t => (t.res0, t.res1)) = some (0xC0747AE147AE147B, 0xC00921FF2E48E8A7) := by decide +kernel

/-- NU31. -/
theorem test_decph_float :
    after (exec (.decph .buf .float .polar) (withBuf [0x42, 0xF6, 0xE6, 0x66, 0x40, 0x49, 0x0F, 0xDB]))
      (fun t => (t.res0, t.res1, t.consumed)) = some (0x405EDCCCC0000000, 0x400921FB60000000, 8) := by decide +kernel

/-- R472, example. -/
theorem test_feed :
    after (exec .feed { withBuf frameH with len := 18 }) (fun t => (t.sync, t.irqPend, t.consumed)) =
      some (dispatchedH.sync, 1, 18) := by decide +kernel

/-- R475 item 1: resync one byte past the failed candidate. -/
theorem test_feed_resync :
    after (exec .feed { withBuf ([0x00, 0x11, 0xAA, 0x55, 0x01] ++ frameH) with len := 23 })
      (fun t => (t.sync.framePos, t.sync.skipCnt, t.sync.diagPos, t.sync.diagCause, t.irqPend, t.consumed)) =
      some (5, 4, 2, 3, 3, 23) := by decide +kernel

/-- R475 item 5: `F_D` at reset fails the CRC-16 check. -/
theorem test_feed_wrong_algorithm :
    after (exec .feed { withBuf frameD with len := 30 })
      (fun t => (t.sync.frameCnt, t.sync.skipCnt, t.sync.frameLen, t.sync.crcErrCnt, t.irqPend)) =
      some (0, 29, 30, 1, 2) := by decide +kernel

/-- SY3. -/
theorem test_frameack :
    after (exec .frameack dispatchedH) (fun t => (t.sync.state, t.sync.acc, t.errCode)) = some (.seeking, [], 0) ∧
    after (exec .frameack State.reset) (fun t => (t.errCode, t.irqPend)) = some (8, 4) := by decide +kernel

/-- R474: `IRQ_PEND` stays. -/
theorem test_syncreset :
    after (exec .syncreset dispatchedH) (fun t => (t.sync, t.irqPend)) = some (Sync.reset, 1) := by decide +kernel

/-! ### The bus -/

/-- ME1, ME2, ME4, ME6 to ME9. -/
theorem test_host_reads :
    after (step ((withBuf [0xAA, 0x01, 0x00, 0x12]).hostReads 0x10000 .w32)) (·.resp) = some (.data 0xAA010012) ∧
    after (step ((withBuf [0xAA, 0x01, 0x00, 0x12]).hostReads 0x10003 .w8)) (·.resp) = some (.data 0x12) ∧
    after (step (State.reset.hostReads 0x20000 .w8)) (·.resp) = some (.data 0) ∧
    after (step (State.reset.hostReads 0x10002 .w32)) (·.resp) = some .busError ∧
    after (step (State.reset.hostReads 0x008 .w8)) (·.resp) = some .busError ∧
    after (step (State.reset.hostReads 0x30000 .w32)) (·.resp) = some .busError ∧
    after (step (State.reset.hostReads 0x03C .w32)) (·.resp) = some (.data 0) := by decide +kernel

/-- ME3, ME5, ME10, CT13. -/
theorem test_host_writes :
    after (step (State.reset.hostWrites 0x10008 .w32 0x11223344)) (·.buf) =
      some [(8, 0x11), (9, 0x22), (10, 0x33), (11, 0x44)] ∧
    after (step (State.reset.hostWrites 0x20000 .w8 0)) (·.resp) = some .busError ∧
    after (step (State.reset.hostWrites 0x034 .w32 0x20000)) (·.limit) = some 65536 ∧
    after (step ({ State.reset with irqPend := 5 }.hostWrites 0x05C .w32 4)) (·.irqPend) = some 1 := by decide +kernel

/-- 95_test_vectors.md section 3, expansion example of R308. -/
theorem test_pseudo_expansion :
    ((PseudoStmt.store .wru32 6 0x5F3C8E80).expand.map (HostStmt.events Config.default)).flatten =
      [accessAt Config.default 0x010 .w32 (.write 6), accessAt Config.default 0x018 .w32 (.write 0x5F3C8E80),
       accessAt Config.default 0x01C .w32 (.write 0), accessAt Config.default 0x004 .w32 (.write 0x23)] := by
  decide +kernel

/-! ### Witnesses: states that meet the hypotheses of the statements -/

/-- IllegalWordsReportAndDoNothing: a word for each clause, the second one bit away from the first. -/
theorem witness_legal_and_illegal_words :
    (splitWord 0x00000D52).wellFormed = true ∧ (splitWord 0x00001D52).wellFormed = false := by decide +kernel

/-- `OpcodeWords`, in every command's statement: a word with a listed opcode that is not in its list. -/
theorem witness_word_outside_the_list :
    (0x00000210 : Word).extractLsb' 0 8 = 0x10 ∧
    (0x00000210 : Word) ∉ [((0x00000010 : Word), Instr.rdu8 .buf), (0x00000110, .rdu8 .acc)].map (·.1) := by decide

/-- StepRunsTheDecodedCommand, a word that is a command. -/
theorem witness_decoded_word :
    decode ((0x0000000000000D52 : DWord).extractLsb' 0 32) = .ok (.decph .acc .float .polar) := by rfl

/-- StepRunsTheDecodedCommand, a word that is no command: one reserved bit away from the word above. -/
theorem witness_undecoded_word (i : Instr) : decode ((0x0000000000001D52 : DWord).extractLsb' 0 32) ≠ .ok i := by
  rw [show decode ((0x0000000000001D52 : DWord).extractLsb' 0 32) = .error .reservedBits by rfl]
  nofun

/-- IdleOrUnselectedBlockKeepsItsState: no event, and addresses on both sides of an aperture. -/
theorem witness_idle_and_unselected :
    State.reset.host = [] ∧
    (let s := { State.reset with cfg := { Config.default with blockBase := 0x1000 } }
     0xFFF < s.cfg.blockBase ∧ s.cfg.blockBase + 0x40000 ≤ 0x41000) := by decide

/-- The extractor's, the encoder's and the numeric statements: the last offset in bounds and the first out of bounds, for
1 to 8 bytes (R410: "OFF = L - n succeeds; OFF = L - n + 1 raises"). -/
theorem witness_buf_bounds :
    ∀ n ∈ [1, 2, 3, 4, 8],
      ({ State.reset with off := BitVec.ofNat 32 (16 - n), limit := 16 } : State).off.toNat + n
        ≤ ({ State.reset with off := BitVec.ofNat 32 (16 - n), limit := 16 } : State).limitOf .buf ∧
      ({ State.reset with off := BitVec.ofNat 32 (17 - n), limit := 16 } : State).limitOf .buf
        < ({ State.reset with off := BitVec.ofNat 32 (17 - n), limit := 16 } : State).off.toNat + n := by decide +kernel

/-- The same in `ACC`, which holds 18 bytes. -/
theorem witness_acc_bounds :
    ({ dispatchedH with off := 10 } : State).off.toNat + 8 ≤ ({ dispatchedH with off := 10 } : State).limitOf .acc ∧
    ({ dispatchedH with off := 11 } : State).limitOf .acc < ({ dispatchedH with off := 11 } : State).off.toNat + 8 := by
  decide +kernel

/-- WrittenFieldReadsBack: each write succeeds, at the end of `BUF` (or ends there), and the state it leaves keeps the
field. -/
theorem witness_writes_succeed :
    ∀ p ∈ [(Instr.wru8, 1), (.wru16, 2), (.wru24, 3), (.wru32, 4), (.wri16, 2), (.wrf32, 4), (.wrf64, 8)],
      after (exec p.1 { State.reset with off := BitVec.ofNat 32 (65536 - p.2), val := 0xFFFFFFFFFFFFFF85 })
        (fun t => (t.err, t.off.toNat + p.2, t.limit.val)) = some (false, 65536, 65536) := by decide +kernel

/-- The CRC statements: a range that ends at the limit, an empty one at the limit, and one byte more (CR21, CR22). -/
theorem witness_crc_bounds :
    (let s := { State.reset with off := 65536, len := 0 }; s.off.toNat + s.len.toNat ≤ s.limitOf .buf) ∧
    (let s := { State.reset with off := 65536, len := 1 }; s.limitOf .buf < s.off.toNat + s.len.toNat) := by decide +kernel

/-- The CHK statements: `LEN` 1 and 2, and an equal and an unequal trailer under each algorithm (CR15, CR16, CR24, CR25). -/
theorem witness_chk_clauses :
    (({ State.reset with len := 1 } : State).len.toNat < 2) ∧
    (2 ≤ ({ State.reset with len := 2 } : State).len.toNat) ∧
    crcCcitt (frameH.take 16) = 0x6C9B ∧ crc16 Config.default.crc16 (frameH.take 16) = 0x82D5 := by decide +kernel

/-- CrcDetectsEverySingleByteChange. -/
theorem witness_changed_byte : (0x49 : Byte) ≠ 0x48 := by decide

/-- CheckRejectsEveryCorruptedByte: both commands accept a frame image, and its first and last byte can change. -/
theorem witness_accepted_frames :
    after (exec (.chkccitt .buf) { withBuf frameH with len := 18 }) (·.err) = some false ∧
    after (exec (.chk16 .buf) { withBuf (frameH.take 16 ++ [0x82, 0xD5]) with len := 18 }) (·.err) = some false ∧
    (0xAB : Byte) ≠ (withBuf frameH).bufByte 0 ∧ (0x9C : Byte) ≠ (withBuf frameH).bufByte 17 := by decide +kernel

/-- HdrparseFollowsItsRule: the header's clauses at their boundaries: type 5 and 6, version 3 and 4, length 15 and 16, the
header and the declared frame just in and just out of bounds. -/
theorem witness_hdrparse_clauses :
    (0x51 : Byte).toNat / 16 % 8 = 5 ∧ (0x61 : Byte).toNat / 16 % 8 = 6 ∧
    (0x13 : Byte).toNat % 16 = 3 ∧ (0x14 : Byte).toNat % 16 = 4 ∧
    (∀ l ∈ [(13, false), (14, true)], decide (0 + 14 ≤ l.1) = l.2) ∧
    after (exec (.hdrparse .buf) { withBuf frameH with limit := 13 }) (·.errCode) = some 1 ∧
    after (exec (.hdrparse .buf) (withBuf (0xAA :: 0x61 :: frameH.drop 2))) (·.errCode) = some 3 ∧
    after (exec (.hdrparse .buf) (withBuf (0xAA :: 0x14 :: frameH.drop 2))) (·.errCode) = some 3 ∧
    after (exec (.hdrparse .buf) (withBuf (0xAA :: 0x11 :: 0 :: 15 :: frameH.drop 4))) (·.errCode) = some 6 ∧
    after (exec (.hdrparse .buf) (withBuf (0xAA :: 0x53 :: 0 :: 16 :: frameH.drop 4))) (·.errCode) = some 0 := by
  decide +kernel

/-- SetdlenFollowsItsRule: the largest length and the next. -/
theorem witness_setdlen_clauses :
    ({ State.reset with val := 65519 } : State).val.toNat ≤ 65519 ∧
    65519 < ({ State.reset with val := 65520 } : State).val.toNat := by decide

/-- ConversionsToBinary64AreExact: a NaN, an infinity, the largest finite value; an integer of 53 bits. -/
theorem witness_conversion_clauses :
    ((0x7F800001 : BitVec 32).extractLsb' 23 8 = 0xFF ∧ (0x7F800001 : BitVec 32).extractLsb' 0 23 ≠ 0) ∧
    ((0x7F800000 : BitVec 32).extractLsb' 23 8 = 0xFF ∧ (0x7F800000 : BitVec 32).extractLsb' 0 23 = 0) ∧
    (0x7F7FFFFF : BitVec 32).extractLsb' 23 8 ≠ 0xFF ∧ (2 ^ 53 - 1 : Int).natAbs < 2 ^ 53 := by decide +kernel

/-- ProductOfSpecialOperands and ProductIsRoundedToNearestEven: the smallest NaN, the infinity, the largest finite
magnitude, the smallest subnormal and zero. -/
theorem witness_product_clauses :
    0x7FF0000000000000 < (0xFFF0000000000001 : DWord).toNat % 2 ^ 63 ∧
    (0xFFF0000000000000 : DWord).toNat % 2 ^ 63 = 0x7FF0000000000000 ∧
    (0xFFEFFFFFFFFFFFFF : DWord).toNat % 2 ^ 63 < 0x7FF0000000000000 ∧
    0 < (0x8000000000000001 : DWord).toNat % 2 ^ 63 ∧ (0x8000000000000000 : DWord).toNat % 2 ^ 63 = 0 ∧
    (f64mul 0x7FEFFFFFFFFFFFFF 0x4000000000000000 = 0x7FF0000000000000 ∧
      f64mul 0x0000000000000003 0x3FE0000000000000 = 0x0000000000000002 ∧
      f64mul 0x0000000000000001 0x3FE0000000000000 = 0) := by decide +kernel

/-- NumericResultsDependOnlyOnOperands: two states that agree on the operand and differ elsewhere. -/
theorem witness_numeric_states :
    (let s := withBuf [0x30, 0x39, 1]; let s' := { withBuf [0x30, 0x39, 2] with crcAlg := 0 }
     after (exec (.decfix .buf) s) (fun t => (t.err, t.consumed)) = some (false, 2) ∧
     after (exec (.decfix .buf) s') (fun t => (t.err, t.consumed)) = some (false, 2) ∧
     ∀ k < 2, s.operandByte .buf k = s'.operandByte .buf k) := by decide +kernel

/-- SeekingTakesOnlyTheSyncByte: a run in SEEKING, and a byte of each clause. -/
theorem witness_seeking :
    ({ sync := Sync.reset, pend := 0 } : SyncRun).sync.state = .seeking ∧ (0xAA : Byte) = 0xAA ∧ (0xAB : Byte) ≠ 0xAA := by
  decide

/-- The synchronizer in HDR_BUF after the first 13 bytes of a header. -/
def headerRun (b1 : Byte) (l : Byte) : SyncRun :=
  { sync := { Sync.reset with state := .hdrBuf, acc := 0xAA :: b1 :: 0 :: l :: (frameH.take 13).drop 4 }, pend := 0 }

/-- HeaderBytesFollowTheRule: 13 bytes and 14, and the three outcomes of the check. -/
theorem witness_header_bytes :
    ((headerRun 0x11 18).sync.acc ++ [0xA0]).length = 14 ∧ ([0xAA] ++ [(0x11 : Byte)]).length ≠ 14 ∧
    after (.next { State.reset with sync := (syncStep State.reset.syncEnv 0xA0 (headerRun 0x61 18)).sync })
      (·.sync.diagCause) = some 3 ∧
    after (.next { State.reset with sync := (syncStep State.reset.syncEnv 0xA0 (headerRun 0x11 15)).sync })
      (·.sync.diagCause) = some 6 ∧
    (syncStep State.reset.syncEnv 0xA0 (headerRun 0x53 16)).sync.state = .bodyBuf := by decide +kernel

/-- The synchronizer in BODY_BUF after the first 17 bytes of `F_H`. -/
def bodyRun : SyncRun :=
  { sync := { Sync.reset with state := .bodyBuf, acc := frameH.take 17, frameType := 1, frameLen := 18 }, pend := 0 }

/-- BodyBytesFollowTheRule: the last byte completes the frame, right or wrong; one byte before it does not. -/
theorem witness_body_bytes :
    (bodyRun.sync.acc ++ [0x9B]).length = 18 ∧ (frameH.take 16 ++ [0x6C]).length ≠ 18 ∧ 2 ≤ bodyRun.sync.frameLen.toNat ∧
    (syncStep State.reset.syncEnv 0x9B bodyRun).sync.state = .dispatch ∧
    (syncStep State.reset.syncEnv 0x9C bodyRun).sync.diagCause = 5 := by decide +kernel

/-- FeedRunsItsLoopToTheEnd, FeedDrainsUnlessDispatched: a chunk at the limit and one beyond it (SY4), and a FEED in
DISPATCH (SY2). -/
theorem witness_feed_clauses :
    (let s := { withBuf frameH with len := 18, limit := 18 }; s.off.toNat + s.len.toNat ≤ s.limit.val) ∧
    (let s := { withBuf frameH with len := 18, limit := 17 }; s.limit.val < s.off.toNat + s.len.toNat) ∧
    after (exec .feed { dispatchedH with len := 1 }) (fun t => (t.err, t.consumed)) = some (false, 0) := by decide +kernel

/-- FeedResumesAcrossChunks: `F_H` as 10 bytes, then 8 (R472, example). -/
theorem witness_feed_in_two_chunks :
    after (exec .feed { withBuf frameH with len := BitVec.ofNat 32 10 }) (fun t => (t.sync.state, t.consumed)) =
      some (.hdrBuf, 10) ∧
    after (exec .feed { withBuf frameH with
        sync := { Sync.reset with state := .hdrBuf, acc := frameH.take 10, streamPos := 10 },
        off := BitVec.ofNat 32 (0 + 10), len := BitVec.ofNat 32 8 })
      (fun t => (t.sync.state, t.consumed)) = some (.dispatch, 8) := by decide +kernel

/-- FeedKeepsTheStreamContiguous, OnlyCheckedFramesAreDispatched, EveryStepKeepsTheInvariant: a state with a partial
candidate that meets the invariant, and one with a dispatched frame. -/
theorem witness_invariant_partial_candidate :
    ({ withBuf frameH with
        sync := { Sync.reset with state := .hdrBuf, acc := frameH.take 10, streamPos := 10 } } : State).Inv where
  buf := by constructor <;> decide +kernel
  sync := ⟨by constructor <;> decide, by decide, .inl rfl⟩
  hdr := ⟨by decide, by decide, .inl ⟨rfl, rfl⟩⟩
  err := by decide
  code := by decide

/-- The state with `F_H` dispatched meets the invariant. -/
theorem witness_invariant_dispatched : dispatchedH.Inv where
  buf := by constructor <;> decide +kernel
  sync := ⟨⟨by decide, by decide, by decide, by decide +kernel, by decide +kernel, by decide +kernel⟩, by decide, .inl rfl⟩
  hdr := ⟨by decide, by decide, .inl ⟨rfl, rfl⟩⟩
  err := by decide
  code := by decide

/-- FrameackReleasesTheFrame: both clauses. -/
theorem witness_frameack_clauses : dispatchedH.sync.state = .dispatch ∧ State.reset.sync.state ≠ .dispatch := by decide

/-- FailingCommandChangesOnlyStatus, CommandsOnlySetPendingBits: a command that succeeds and one that fails, with a bit
pending. -/
theorem witness_success_and_failure :
    after (exec .nop { State.reset with irqPend := 1 }) (fun t => (t.err, t.irqPend)) = some (false, 1) ∧
    after (exec .frameack { State.reset with irqPend := 1 }) (fun t => (t.err, t.irqPend)) = some (true, 5) := by
  decide +kernel

/-- WindowAccessesAreBigEndian, IllegalAccessesAreBusErrors, RegisterReadsReturnTheirFields: the edges of the aperture's
regions, and a legal and an illegal access at them. -/
theorem witness_access_clauses :
    LegalRead 0x0FC .w32 ∧ ¬ LegalRead 0x100 .w32 ∧ LegalRead 0x10000 .w8 ∧ ¬ LegalRead 0x0FFFF .w8 ∧
    LegalRead 0x2FFFF .w8 ∧ ¬ LegalRead 0x30000 .w8 ∧ LegalWrite 0x1FFFC .w32 ∧ ¬ LegalWrite 0x20000 .w8 ∧
    LegalRead (0x10000 + 65532) .w32 ∧ ¬ LegalRead 0x10002 .w32 ∧ ¬ LegalRead 0x10000 .w16 ∧ ¬ LegalRead 0x10000 .w64 := by
  simp [LegalRead, LegalWrite]

end Sys2Proof.Tests
end

section
/-! Every command and every step answers a next state (R14). `perform` names what a command computes before R402 ends it,
so that what holds of both ends of a command holds of every instruction. -/

namespace Sys2Proof.Machine

/-- R401: `perform_m`, over all commands: the state an instruction would leave, or the error it raises. -/
def perform : Instr → State → Except CmdError State
  | .nop => .ok
  | .rdu8 sp => performRead sp 1 zext64
  | .rdu16 sp => performRead sp 2 zext64
  | .rdu24 sp => performRead sp 3 zext64
  | .rdu32 sp => performRead sp 4 zext64
  | .rdi16 sp => performRead sp 2 sext16
  | .rdf32 sp => performRead sp 4 zext64
  | .rdf64 sp => performRead sp 8 zext64
  | .wru8 => performWrite 1
  | .wru16 => performWrite 2
  | .wru24 => performWrite 3
  | .wru32 => performWrite 4
  | .wri16 => performWrite 2
  | .wrf32 => performWrite 4
  | .wrf64 => performWrite 8
  | .crcccitt sp => performCrc .ccitt sp
  | .crc16 sp => performCrc .crc16 sp
  | .chkccitt sp => performChk .ccitt sp
  | .chk16 sp => performChk .crc16 sp
  | .hdrparse sp => performHdrparse sp
  | .setdlen => performSetdlen
  | .decf32 sp => performDecf32 sp
  | .decfix sp => performDecfix sp
  | .decph sp f p => performDecph sp f p
  | .feed => performFeed
  | .frameack => performFrameack
  | .syncreset => performSyncreset

/-- Every instruction ends by `finish`. -/
theorem exec_eq_finish_perform (i : Instr) (s : State) : exec i s = finish s (perform i s) := by
  cases i <;> rfl

/-- The two ends of an instruction, R402's OK and R402's error. -/
theorem exec_cases (i : Instr) (s : State) :
    (∃ t, perform i s = .ok t ∧ exec i s = .next t.succeed) ∨
    (∃ e, perform i s = .error e ∧ exec i s = .next (s.fail e)) := by
  rw [exec_eq_finish_perform]
  exact finish_cases s (perform i s)

theorem CmdError.one_le_code (e : CmdError) : 1 ≤ e.code.toNat :=
  Nat.one_le_iff_ne_zero.mpr fun h => e.code_ne_zero (BitVec.eq_of_toNat_eq h)

/-! ### A next state at every level of a step -/

theorem exec_next (i : Instr) (s : State) : ∃ t, exec i s = .next t := by
  obtain ⟨t, -, h⟩ | ⟨e, -, h⟩ := exec_cases i s
  · exact ⟨_, h⟩
  · exact ⟨_, h⟩

theorem execute_next (w : Word) (s : State) : ∃ t, execute w s = .next t := by
  unfold execute
  split
  · exact exec_next _ _
  · exact ⟨_, finish_error _ _⟩

theorem hostAccess_next (off : Nat) (w : Width) (k : AccessKind) (s : State) : ∃ t, hostAccess off w k s = .next t := by
  cases k with
  | read => cases h : s.busRead off w <;> simp [hostAccess, h]
  | write v =>
    by_cases hc : isCommandWrite off w = true
    · simpa [hostAccess, hc] using execute_next (loHalf v) (s.withResp .written)
    · cases h : s.busWrite off w v <;> simp [hostAccess, hc, h]

theorem runEvent_next (ev : HostEvent) (s : State) : ∃ t, runEvent ev s = .next t := by
  cases ev with
  | hardwareReset => exact ⟨_, rfl⟩
  | access a =>
    cases h : apertureOffset s.cfg a.addr with
    | none => simp [runEvent, h]
    | some off => simpa [runEvent, h] using hostAccess_next off a.width a.kind s

theorem step_next (s : State) : ∃ t, step s = .next t := by
  cases h : s.host with
  | nil => simp [step, runNext, h]
  | cons ev rest => simpa [step, runNext, h] using runEvent_next ev { s with host := rest }

/-- Settles O6: an instruction ends by R402's success or by R402's error, whose code R600 bounds, and each part of a step
answers a next state. -/
theorem everyStepAnswersANextState : Obligations.EveryStepAnswersANextState := by
  refine ⟨fun i s => ?_, step_next⟩
  obtain ⟨t, -, h⟩ | ⟨e, -, h⟩ := exec_cases i s
  · exact ⟨t.succeed, h, .inl ⟨rfl, rfl⟩⟩
  · exact ⟨s.fail e, h, .inr ⟨rfl, e.one_le_code, e.code_le⟩⟩

end Sys2Proof.Machine
end

section
/-! A host read of a register (R204, R209), for every state, and what the registers hold after reset (R146). -/

namespace Sys2Proof.Machine

/-- R204: the aperture starts at `BLOCK_BASE` and is 256 KiB long. -/
theorem apertureOffset_blockBase_add (cfg : Config) {off : Nat} (h : off < 0x40000) :
    apertureOffset cfg (cfg.blockBase + off) = some off := by
  simp [apertureOffset, h]

/-- The next step performs the pending read, and the queue is past it. -/
theorem step_hostReads (s : State) {off : Nat} (w : Width) (h : off < 0x40000) :
    step (s.hostReads off w) = hostAccess off w .read s := by
  simp [step, runNext, runEvent, State.hostReads, accessAt, apertureOffset_blockBase_add s.cfg h]

/-- R204, R209: a 32-bit read at a 4-aligned offset of the register region returns the register. -/
theorem State.busRead_register (s : State) {off : Nat} (h : off < 0x100) (h4 : off % 4 = 0) :
    s.busRead off .w32 = some (s.readReg off) := by
  simp [State.busRead, regionOf, registerLegal, h, h4]

/-- A legal register read changes only the record of what the bus answered. -/
theorem step_hostReads_register (s : State) {off : Nat} (h : off < 0x100) (h4 : off % 4 = 0) :
    step (s.hostReads off .w32) = .next { s with resp := .data (s.readReg off) } := by
  rw [step_hostReads s .w32 (Nat.lt_trans h (by decide))]
  simp [hostAccess, s.busRead_register h h4, State.withResp]

/-- R146: the registers whose reset value is not 0, by offset. -/
def resetTable : List (Nat × Word) :=
  [(0x000, 0x50434653), (0x0FC, 0x00000001), (0x034, 65536), (0x038, 1), (0x040, 0x88E368F1),
    (0x044, 0x3EE4F8B5), (0x048, 0xEB1C432D), (0x04C, 0x3F1A36E2), (0x050, 0xFD), (0x054, 0xFF)]

theorem resetTable_offsets_legal : ∀ p ∈ resetTable, p.1 < 0x100 ∧ p.1 % 4 = 0 := by decide

theorem readReg_reset_of_mem_resetTable : ∀ p ∈ resetTable, State.reset.readReg p.1 = p.2 := by decide

/-- By the register offsets `readLowReg` distinguishes; the last case is a reserved offset (R143). -/
theorem readLowReg_reset_eq_zero_or_listed (off : Nat) :
    State.reset.readLowReg off = 0 ∨ off ∈ resetTable.map (·.1) := by
  unfold State.readLowReg
  split
  case h_32 => exact .inl rfl
  all_goals decide

/-- By the register offsets `readHighReg` distinguishes; the last case is a reserved offset (R143). -/
theorem readHighReg_reset_eq_zero_or_listed (off : Nat) :
    State.reset.readHighReg off = 0 ∨ off ∈ resetTable.map (·.1) := by
  unfold State.readHighReg
  split
  case h_16 => exact .inl rfl
  all_goals decide

theorem readReg_reset_of_not_mem_resetTable {off : Nat} (h : off ∉ resetTable.map (·.1)) :
    State.reset.readReg off = 0 := by
  unfold State.readReg
  split
  · exact (readLowReg_reset_eq_zero_or_listed off).resolve_right h
  · exact (readHighReg_reset_eq_zero_or_listed off).resolve_right h

/-- Settles O56: a step performs the pending read, which returns the register's field, and the reset state holds in each
field the value of R146. -/
theorem resetValuesAreThoseOfTheTable : Obligations.ResetValuesAreThoseOfTheTable := by
  refine ⟨fun p hp => ?_, fun off h h4 hoff => ?_, rfl, rfl, rfl⟩
  · obtain ⟨h, h4⟩ := resetTable_offsets_legal p hp
    rw [step_hostReads_register _ h h4, readReg_reset_of_mem_resetTable p hp]
  · rw [step_hostReads_register _ h h4, readReg_reset_of_not_mem_resetTable hoff]

end Sys2Proof.Machine
end

section
/-! What a command that succeeds can leave: one named update of Machine/Ops.lean, and which one. Said once per meaning,
so that what every named update keeps is kept by every command. -/

namespace Sys2Proof.Machine

/-- The states that a succeeding command can compute from `s` (R402's OK comes after it). -/
inductive State.UpdatesTo (s : State) : State → Prop
  | refl : s.UpdatesTo s
  | withResult (r : DWord) (n : Word) : s.UpdatesTo (s.withResult r n)
  | withResults (r0 r1 : DWord) (n : Word) : s.UpdatesTo (s.withResults r0 r1 n)
  | withStored (a n : Nat) (v : DWord) : s.UpdatesTo (s.withStored a n v)
  | withHeader (h : HdrRegs) (n : Word) : s.UpdatesTo (s.withHeader h n)
  | withDataLength (d : Nat) : s.UpdatesTo (s.withDataLength d)
  | withSync (y : Sync) : s.UpdatesTo (s.withSync y)
  | withFeed (f : FeedRun) : s.UpdatesTo (s.withFeed f)

section
variable {s t : State} {sp : Space}

theorem performRead_ok {n : Nat} {ext : Nat → DWord} (h : performRead sp n ext s = .ok t) :
    ∃ r c, t = s.withResult r c := by
  unfold performRead at h
  split at h <;> cases h
  exact ⟨_, _, rfl⟩

theorem performWrite_ok {n : Nat} (h : performWrite n s = .ok t) : t = s.withStored s.off.toNat n s.val := by
  unfold performWrite at h
  split at h <;> cases h
  rfl

theorem performCrc_ok {g : CrcAlg} (h : performCrc g sp s = .ok t) : ∃ r c, t = s.withResult r c := by
  unfold performCrc at h
  split at h <;> cases h
  exact ⟨_, _, rfl⟩

theorem performChk_ok {g : CrcAlg} (h : performChk g sp s = .ok t) : ∃ r0 r1 c, t = s.withResults r0 r1 c := by
  unfold performChk at h
  split at h
  · cases h
  · split at h
    · cases h
    · split at h <;> cases h
      exact ⟨_, _, _, rfl⟩

theorem performHdrparse_ok (h : performHdrparse sp s = .ok t) : ∃ f c, t = s.withHeader f c := by
  unfold performHdrparse at h
  split at h
  · cases h
  · split at h
    · cases h
    · split at h
      · cases h
      · split at h <;> cases h
        exact ⟨_, _, rfl⟩

theorem performSetdlen_ok (h : performSetdlen s = .ok t) : t = s.withDataLength s.val.toNat := by
  unfold performSetdlen at h
  split at h <;> cases h
  rfl

theorem performDecf32_ok (h : performDecf32 sp s = .ok t) : ∃ r c, t = s.withResult r c := by
  unfold performDecf32 at h
  split at h <;> cases h
  exact ⟨_, _, rfl⟩

theorem performDecfix_ok (h : performDecfix sp s = .ok t) : ∃ r c, t = s.withResult r c := by
  unfold performDecfix at h
  split at h <;> cases h
  exact ⟨_, _, rfl⟩

theorem performDecph_ok {f : PhasorFormat} {p : PhasorCoords} (h : performDecph sp f p s = .ok t) :
    ∃ r0 r1 c, t = s.withResults r0 r1 c := by
  unfold performDecph at h
  split at h <;> cases h
  exact ⟨_, _, _, rfl⟩

theorem performFeed_ok (h : performFeed s = .ok t) : ∃ bs, t = s.withFeed (s.feedEnd bs) := by
  unfold performFeed at h
  split at h <;> cases h
  exact ⟨_, rfl⟩

theorem performFrameack_ok (h : performFrameack s = .ok t) :
    t = s.withSync { s.sync with acc := [], state := .seeking } := by
  unfold performFrameack at h
  split at h <;> cases h
  rfl

/-- By the command's meaning: the commands of one family share a case. -/
theorem perform_ok_updatesTo {i : Instr} (h : perform i s = .ok t) : s.UpdatesTo t := by
  cases i with
  | nop => cases h; exact .refl
  | rdu8 | rdu16 | rdu24 | rdu32 | rdi16 | rdf32 | rdf64 =>
    obtain ⟨r, n, rfl⟩ := performRead_ok h
    exact .withResult r n
  | wru8 | wru16 | wru24 | wru32 | wri16 | wrf32 | wrf64 =>
    exact performWrite_ok h ▸ .withStored _ _ _
  | crcccitt | crc16 =>
    obtain ⟨r, n, rfl⟩ := performCrc_ok h
    exact .withResult r n
  | chkccitt | chk16 =>
    obtain ⟨r0, r1, n, rfl⟩ := performChk_ok h
    exact .withResults r0 r1 n
  | hdrparse =>
    obtain ⟨f, n, rfl⟩ := performHdrparse_ok h
    exact .withHeader f n
  | setdlen => exact performSetdlen_ok h ▸ .withDataLength _
  | decf32 =>
    obtain ⟨r, n, rfl⟩ := performDecf32_ok h
    exact .withResult r n
  | decfix =>
    obtain ⟨r, n, rfl⟩ := performDecfix_ok h
    exact .withResult r n
  | decph =>
    obtain ⟨r0, r1, n, rfl⟩ := performDecph_ok h
    exact .withResults r0 r1 n
  | feed =>
    obtain ⟨bs, rfl⟩ := performFeed_ok h
    exact .withFeed _
  | frameack => exact performFrameack_ok h ▸ .withSync _
  | syncreset => cases h; exact .withSync _

theorem State.UpdatesTo.resp_eq (h : s.UpdatesTo t) : t.resp = s.resp := by cases h <;> rfl

end

/-- No command touches the record of what the bus answered. -/
theorem exec_resp {i : Instr} {s t : State} (h : exec i s = .next t) : t.resp = s.resp := by
  obtain ⟨u, hu, he⟩ | ⟨e, -, he⟩ := exec_cases i s <;> cases he.symm.trans h
  · exact (perform_ok_updatesTo hu).resp_eq
  · rfl

theorem execute_resp {w : Word} {s t : State} (h : execute w s = .next t) : t.resp = s.resp := by
  unfold execute at h
  split at h
  · exact exec_resp (s := s.writeReg 0x004 w) h
  · cases h
    rfl

end Sys2Proof.Machine
end

section
/-! Host accesses (R208, R209): which are legal, what each answers, and what it leaves unchanged. -/

namespace Sys2Proof.Machine

/-! ### The regions of the aperture -/

/-- R204: the mapped offsets end at `0x30000`, and `0x100` to `0xFFFF` lie in no region. -/
abbrev Unmapped (off : Nat) : Prop := (0x100 ≤ off ∧ off < 0x10000) ∨ 0x30000 ≤ off

theorem region_cases (off : Nat) :
    off < 0x100 ∨ (∃ k < 65536, off = 0x10000 + k) ∨ (∃ k < 65536, off = 0x20000 + k) ∨ Unmapped off := by
  by_cases hb : 0x10000 ≤ off ∧ off < 0x20000
  · exact .inr (.inl ⟨off - 0x10000, by omega, by omega⟩)
  · by_cases ha : 0x20000 ≤ off ∧ off < 0x30000
    · exact .inr (.inr (.inl ⟨off - 0x20000, by omega, by omega⟩))
    · unfold Unmapped
      omega

theorem regionOf_registers {off : Nat} (h : off < 0x100) : regionOf off = .registers off := by
  simp [regionOf, h]

theorem regionOf_bufWindow {k : Nat} (h : k < 65536) : regionOf (0x10000 + k) = .bufWindow k := by
  unfold regionOf
  rw [if_neg (by omega), if_pos (by omega), Nat.add_sub_cancel_left]

theorem regionOf_accWindow {k : Nat} (h : k < 65536) : regionOf (0x20000 + k) = .accWindow k := by
  unfold regionOf
  rw [if_neg (by omega), if_neg (by omega), if_pos (by omega), Nat.add_sub_cancel_left]

theorem regionOf_unmapped {off : Nat} (h : Unmapped off) : regionOf off = .unmapped := by
  unfold regionOf
  rw [if_neg (by omega), if_neg (by omega), if_neg (by omega)]

section
variable (s : State) (w : Width) (v : DWord) {off k : Nat}

theorem State.busRead_registers (h : off < 0x100) :
    s.busRead off w = if registerLegal off w then some (s.readReg off) else none := by
  rw [State.busRead, regionOf_registers h]

theorem State.busRead_bufWindow (h : k < 65536) :
    s.busRead (0x10000 + k) w = if windowLegal k w then some (s.windowRead .buf k w) else none := by
  rw [State.busRead, regionOf_bufWindow h]

theorem State.busRead_accWindow (h : k < 65536) :
    s.busRead (0x20000 + k) w = if windowLegal k w then some (s.windowRead .acc k w) else none := by
  rw [State.busRead, regionOf_accWindow h]

theorem State.busRead_unmapped (h : Unmapped off) : s.busRead off w = none := by
  rw [State.busRead, regionOf_unmapped h]

theorem State.busWrite_registers (h : off < 0x100) :
    s.busWrite off w v = if registerLegal off w then some (s.writeReg off (loHalf v)) else none := by
  rw [State.busWrite, regionOf_registers h]

theorem State.busWrite_bufWindow (h : k < 65536) :
    s.busWrite (0x10000 + k) w v =
      if windowLegal k w then some { s with buf := Memory.storeBytes s.buf k (windowBytes w v) } else none := by
  rw [State.busWrite, regionOf_bufWindow h]

theorem State.busWrite_accWindow (h : k < 65536) : s.busWrite (0x20000 + k) w v = none := by
  rw [State.busWrite, regionOf_accWindow h]

theorem State.busWrite_unmapped (h : Unmapped off) : s.busWrite off w v = none := by
  rw [State.busWrite, regionOf_unmapped h]

end

/-! ### What an access answers -/

/-- The next step performs the pending write, and the queue is past it. -/
theorem step_hostWrites (s : State) {off : Nat} (w : Width) (v : DWord) (h : off < 0x40000) :
    step (s.hostWrites off w v) = hostAccess off w (.write v) s := by
  simp [step, runNext, runEvent, State.hostWrites, accessAt, apertureOffset_blockBase_add s.cfg h]

section
variable {s : State} {off : Nat} {w : Width}

theorem hostAccess_read_of_some {d : Word} (h : s.busRead off w = some d) :
    hostAccess off w .read s = .next { s with resp := .data d } := by
  simp [hostAccess, h, State.withResp]

theorem hostAccess_read_of_none (h : s.busRead off w = none) :
    hostAccess off w .read s = .next { s with resp := .busError } := by
  simp [hostAccess, h, State.withResp]

theorem hostAccess_write_of_some {v : DWord} {t : State} (hc : isCommandWrite off w = false)
    (h : s.busWrite off w v = some t) : hostAccess off w (.write v) s = .next { t with resp := .written } := by
  simp [hostAccess, hc, h, State.withResp]

theorem hostAccess_write_of_none {v : DWord} (hc : isCommandWrite off w = false) (h : s.busWrite off w v = none) :
    hostAccess off w (.write v) s = .next { s with resp := .busError } := by
  simp [hostAccess, hc, h, State.withResp]

/-- R105: a write that runs a command is answered as accepted, whatever the command does. -/
theorem hostAccess_write_of_isCommandWrite (v : DWord) (hc : isCommandWrite off w = true) :
    ∃ t, hostAccess off w (.write v) s = .next t ∧ t.resp = .written := by
  obtain ⟨t, ht⟩ := execute_next (loHalf v) (s.withResp .written)
  exact ⟨t, by simpa [hostAccess, hc] using ht, execute_resp ht⟩

/-! ### Legal and illegal accesses -/

theorem legalWrite_of_isCommandWrite (hc : isCommandWrite off w = true) : LegalWrite off w := by
  obtain ⟨rfl, rfl⟩ : off = 0x004 ∧ w = .w32 := by simpa [isCommandWrite] using hc
  simp [LegalWrite]

/-- R209: the bus returns data for the legal reads and for no others. -/
theorem State.busRead_isSome_iff : (s.busRead off w).isSome ↔ LegalRead off w := by
  obtain h | ⟨k, hk, rfl⟩ | ⟨k, hk, rfl⟩ | h := region_cases off
  · have hb : ¬ 0x10000 ≤ off := by omega
    simp [s.busRead_registers w h, LegalRead, registerLegal, h, hb]
  · have h4 : (0x10000 + k) % 4 = k % 4 := by omega
    have hr : ¬ 0x10000 + k < 0x100 ∧ 0x10000 + k < 0x30000 := by omega
    simp [s.busRead_bufWindow w hk, LegalRead, windowLegal, h4, hr]
  · have h4 : (0x20000 + k) % 4 = k % 4 := by omega
    have hr : ¬ 0x20000 + k < 0x100 ∧ 0x10000 ≤ 0x20000 + k ∧ 0x20000 + k < 0x30000 := by omega
    simp [s.busRead_accWindow w hk, LegalRead, windowLegal, h4, hr]
  · exact iff_of_false (by simp [s.busRead_unmapped w h]) (by unfold LegalRead; omega)

/-- R209: the bus accepts the legal writes and no others. -/
theorem State.busWrite_isSome_iff (v : DWord) : (s.busWrite off w v).isSome ↔ LegalWrite off w := by
  obtain h | ⟨k, hk, rfl⟩ | ⟨k, hk, rfl⟩ | h := region_cases off
  · have hb : ¬ 0x10000 ≤ off := by omega
    simp [s.busWrite_registers w v h, LegalWrite, registerLegal, h, hb]
  · have h4 : (0x10000 + k) % 4 = k % 4 := by omega
    have hr : ¬ 0x10000 + k < 0x100 ∧ 0x10000 + k < 0x20000 := by omega
    simp [s.busWrite_bufWindow w v hk, LegalWrite, windowLegal, h4, hr]
  · exact iff_of_false (by simp [s.busWrite_accWindow w v hk]) (by unfold LegalWrite; omega)
  · exact iff_of_false (by simp [s.busWrite_unmapped w v h]) (by unfold LegalWrite; omega)

end

/-- Settles O54: an access is legal exactly when the bus answers it, and the answer decides the step. A legal write of
`CMD` runs a command instead, which keeps the answer. -/
theorem illegalAccessesAreBusErrors : Obligations.IllegalAccessesAreBusErrors := by
  intro s off w v h
  rw [step_hostReads s w h, step_hostWrites s w v h]
  refine ⟨fun hr => ?_, fun hw => ?_, fun hr => ?_, fun hw => ?_⟩
  · exact hostAccess_read_of_none (by simpa [← s.busRead_isSome_iff] using hr)
  · have hc : isCommandWrite off w = false := by
      simpa using mt legalWrite_of_isCommandWrite hw
    exact hostAccess_write_of_none hc (by simpa [← s.busWrite_isSome_iff v] using hw)
  · obtain ⟨d, hd⟩ := Option.isSome_iff_exists.1 (s.busRead_isSome_iff.2 hr)
    exact ⟨d, hostAccess_read_of_some hd⟩
  · cases hc : isCommandWrite off w with
    | true => exact hostAccess_write_of_isCommandWrite v hc
    | false =>
      obtain ⟨t, ht⟩ := Option.isSome_iff_exists.1 ((s.busWrite_isSome_iff v).2 hw)
      exact ⟨_, hostAccess_write_of_some hc ht, rfl⟩

end Sys2Proof.Machine
end

section
/-! Host accesses of the `BUF` and `ACC` windows (R208): the bytes moved and their order. -/

namespace Sys2Proof.Machine

/-! ### Big-endian words -/

/-- R9: one more byte of a big-endian field is one more byte at the low end of the word. -/
theorem ofNat_mul_256_add_toNat (n u : Nat) (b : Byte) :
    BitVec.ofNat (n + 8) (u * 256 + b.toNat) = BitVec.ofNat n u ++ b := by
  have hb : b.toNat < 2 ^ 8 := b.isLt
  have hmod : (u * 256 + b.toNat) % 2 ^ 8 = b.toNat := by omega
  have hdiv : (u * 256 + b.toNat) / 2 ^ 8 = u := by omega
  apply BitVec.eq_of_toNat_eq
  rw [BitVec.toNat_append, BitVec.toNat_ofNat, BitVec.toNat_ofNat, ← Nat.shiftLeft_add_eq_or_of_lt hb,
    Nat.shiftLeft_eq, Nat.pow_add, Nat.mul_comm (2 ^ n), Nat.mod_mul, hmod, hdiv]
  omega

theorem ofNat_be_four (a b c d : Byte) : BitVec.ofNat 32 (be [a, b, c, d]) = a ++ b ++ c ++ d := by
  simp [be, ofNat_mul_256_add_toNat 24, ofNat_mul_256_add_toNat 16, ofNat_mul_256_add_toNat 8]

theorem State.windowRead_w32 (s : State) (sp : Space) (k : Nat) :
    s.windowRead sp k .w32 =
      s.spaceByte sp k ++ s.spaceByte sp (k + 1) ++ s.spaceByte sp (k + 2) ++ s.spaceByte sp (k + 3) :=
  ofNat_be_four _ _ _ _

/-! ### Bytes after a write -/

/-- R206: the bytes of `BUF` after a write of the low `8n` bits of a value, most significant byte first. -/
theorem State.bufByte_storeBytes_beBytes (s : State) (k n : Nat) (v : DWord) (a : Nat) :
    ({ s with buf := Memory.storeBytes s.buf k (beBytes n v) } : State).bufByte a =
      if k ≤ a ∧ a < k + n then v.extractLsb' (8 * (n - 1 - (a - k))) 8 else s.bufByte a := by
  rw [State.bufByte, Memory.byteAt?_storeBytes, beBytes_length]
  split
  next h =>
    have : a - k < n := by omega
    simp [beBytes, this]
  next => rfl

theorem State.bufByte_write_w8 (s : State) (k : Nat) (v : DWord) (a : Nat) :
    ({ s with buf := Memory.storeBytes s.buf k (windowBytes .w8 v) } : State).bufByte a =
      if a = k then v.extractLsb' 0 8 else s.bufByte a := by
  refine (s.bufByte_storeBytes_beBytes k 1 v a).trans ?_
  by_cases h : a = k
  · simp [h]
  · rw [if_neg h, if_neg (by omega)]

theorem State.bufByte_write_w32 (s : State) (k : Nat) (v : DWord) (a : Nat) :
    ({ s with buf := Memory.storeBytes s.buf k (windowBytes .w32 v) } : State).bufByte a =
      if a = k then v.extractLsb' 24 8 else if a = k + 1 then v.extractLsb' 16 8
      else if a = k + 2 then v.extractLsb' 8 8 else if a = k + 3 then v.extractLsb' 0 8 else s.bufByte a := by
  refine (s.bufByte_storeBytes_beBytes k 4 v a).trans ?_
  by_cases h : k ≤ a ∧ a < k + 4
  · obtain rfl | rfl | rfl | rfl : a = k ∨ a = k + 1 ∨ a = k + 2 ∨ a = k + 3 := by omega
    all_goals simp
  · rw [if_neg h, if_neg (by omega), if_neg (by omega), if_neg (by omega), if_neg (by omega)]

/-! ### Accesses of the windows -/

section
variable (s : State) {k : Nat} {w : Width} (hk : k < 65536) (hw : windowLegal k w = true)
include hk hw

theorem step_hostReads_bufWindow :
    step (s.hostReads (0x10000 + k) w) = .next { s with resp := .data (s.windowRead .buf k w) } := by
  rw [step_hostReads s w (by omega)]
  exact hostAccess_read_of_some ((s.busRead_bufWindow w hk).trans (if_pos hw))

theorem step_hostReads_accWindow :
    step (s.hostReads (0x20000 + k) w) = .next { s with resp := .data (s.windowRead .acc k w) } := by
  rw [step_hostReads s w (by omega)]
  exact hostAccess_read_of_some ((s.busRead_accWindow w hk).trans (if_pos hw))

theorem step_hostWrites_bufWindow (v : DWord) :
    step (s.hostWrites (0x10000 + k) w v) =
      .next { s with buf := Memory.storeBytes s.buf k (windowBytes w v), resp := .written } := by
  have hc : isCommandWrite (0x10000 + k) w = false := decide_eq_false (by omega)
  rw [step_hostWrites s w v (by omega)]
  exact hostAccess_write_of_some hc ((s.busWrite_bufWindow w v hk).trans (if_pos hw))

end

/-- R208: the guard "k >= ACC_CNT reads 0x00" is what the list's default says. -/
theorem State.accByte_eq_ite (s : State) (k : Nat) :
    s.accByte k = if k < s.sync.acc.length then s.sync.acc.getD k 0 else 0 := by
  unfold State.accByte
  split
  · rfl
  · rw [List.getD_eq_default _ _ (by omega)]

theorem windowLegal_w8 (k : Nat) : windowLegal k .w8 = true := by simp [windowLegal]

theorem windowLegal_w32 {k : Nat} (h : k % 4 = 0) : windowLegal k .w32 = true := by simp [windowLegal, h]

/-- Settles O53: a legal window access reads or writes the bytes from `k` on, in the order that R208 states. -/
theorem windowAccessesAreBigEndian : Obligations.WindowAccessesAreBigEndian := by
  intro s k v hk
  refine ⟨step_hostReads_bufWindow s hk (windowLegal_w8 k), ?_, ?_, fun h4 => ⟨?_, ?_, ?_⟩⟩
  · rw [← s.accByte_eq_ite]
    exact step_hostReads_accWindow s hk (windowLegal_w8 k)
  · exact ⟨_, step_hostWrites_bufWindow s hk (windowLegal_w8 k) v, s.bufByte_write_w8 k v⟩
  · rw [step_hostReads_bufWindow s hk (windowLegal_w32 h4), s.windowRead_w32]
    rfl
  · rw [step_hostReads_accWindow s hk (windowLegal_w32 h4), s.windowRead_w32]
    rfl
  · exact ⟨_, step_hostWrites_bufWindow s hk (windowLegal_w32 h4) v, s.bufByte_write_w32 k v⟩

end Sys2Proof.Machine
end

section
/-! NOP and the two ends of a command (40_command_control.md): which words of an opcode are commands (R300, R304), and
what a command that raises leaves unchanged (R403). -/

namespace Sys2Proof.Machine

/-- R400 to R402: what the decoder refuses is IllegalCommand, with no other effect. -/
theorem wordIsIllegal_of_decode_error {w : Word} {c : IllegalWord} (h : decode w = .error c) : WordIsIllegal w := by
  intro s
  simp only [execute, h]
  rfl

/-- R303: every row fixes bits [31:12], and fixes them to 0. -/
theorem opcodeMap_rsv : ∀ r ∈ opcodeMap,
    r.mask.extractLsb' 12 20 = BitVec.allOnes 20 ∧ r.pattern.extractLsb' 12 20 = 0 := by decide

/-- R300: `RSV` of a command word is 0. -/
theorem rsv_eq_zero_of_decode_ok {w : Word} {i : Instr} (h : decode w = .ok i) : w.extractLsb' 12 20 = 0 := by
  unfold decode at h
  split at h
  case h_1 r hr =>
    obtain ⟨hmask, hpattern⟩ := opcodeMap_rsv r (List.mem_of_find?_eq_some hr)
    have hsel : w &&& r.mask = r.pattern := by simpa [OpcodeRow.selects] using List.find?_some hr
    rwa [← hsel, BitVec.extractLsb'_and, hmask, BitVec.and_allOnes] at hpattern
  case h_2 => cases h

/-- R300: a word is its `RSV`, its four option bits and its `OP`. -/
theorem rsv_append_options_append_op (w : Word) :
    w.extractLsb' 12 20 ++ w.extractLsb' 8 4 ++ w.extractLsb' 0 8 = w := by
  rw [BitVec.extractLsb'_append_extractLsb'_eq_extractLsb' (by rfl),
    BitVec.extractLsb'_append_extractLsb'_eq_extractLsb' (by rfl), BitVec.extractLsb'_eq_self]

/-- Only the sixteen words of an opcode whose `RSV` is 0 can be commands, so `OpcodeWords` is decided on them. -/
theorem opcodeWords_of_forall_options {op : BitVec 8} {ws : List (Word × Instr)}
    (hdec : ∀ p ∈ ws, decode p.1 = .ok p.2)
    (hill : ∀ o : BitVec 4, (decode (0#20 ++ o ++ op)).isOk → 0#20 ++ o ++ op ∈ ws.map (·.1)) : OpcodeWords op ws := by
  refine ⟨hdec, fun w hop hw => ?_⟩
  cases h : decode w with
  | error c => exact wordIsIllegal_of_decode_error h
  | ok i =>
    have hword : 0#20 ++ w.extractLsb' 8 4 ++ op = w := by
      have := rsv_append_options_append_op w
      rwa [rsv_eq_zero_of_decode_ok h, hop] at this
    have hmem := hill (w.extractLsb' 8 4)
    rw [hword, h] at hmem
    exact absurd (hmem rfl) hw

/-- Settles O8: of the sixteen words with `OP` = 0x00 and a clear `RSV` only 0x00000000 decodes, and NOP leaves the state
it started from, ended by R402's OK. -/
theorem nopOnlyClearsStatus : Obligations.NopOnlyClearsStatus :=
  ⟨opcodeWords_of_forall_options (by decide) (by decide), fun _ => rfl⟩

/-- Settles O47: a command ends by R402's OK, which clears `ERRCODE`, or by R402's error, which drops what the command had
computed. -/
theorem failingCommandChangesOnlyStatus : Obligations.FailingCommandChangesOnlyStatus := by
  intro i s t h
  obtain ⟨u, -, hok⟩ | ⟨e, -, herr⟩ := exec_cases i s
  · cases hok.symm.trans h
    exact ⟨fun _ => rfl, fun hraised => by simp at hraised⟩
  · cases herr.symm.trans h
    exact ⟨fun hclear => by simp at hclear, fun _ => ⟨e.one_le_code, e.code_le, rfl⟩⟩

end Sys2Proof.Machine
end

section
/-! The field extractor (41_field_extractor.md): the read that its seven commands share (R410), the values of big-endian
fields, and the commands (R411 to R417). -/

namespace Sys2Proof.Machine

/-! ### The end of a command, from what it computes -/

theorem succeeds_of_perform_ok {i : Instr} {s t : State} (h : perform i s = .ok t) : Succeeds i s t := by
  rw [Succeeds, exec_eq_finish_perform, h]
  rfl

theorem raises_of_perform_error {i : Instr} {s : State} {e : CmdError} (h : perform i s = .error e) : Raises i s e := by
  rw [Raises, exec_eq_finish_perform, h]
  rfl

/-! ### The shared rule of the reads -/

section
variable {s : State} {sp : Space} {n : Nat} {ext : Nat → DWord}

theorem performRead_of_le (h : s.off.toNat + n ≤ s.limitOf sp) :
    performRead sp n ext s =
      .ok (s.withResult (ext (be ((List.range n).map (s.operandByte sp)))) (BitVec.ofNat 32 n)) := by
  rw [performRead, State.operand_ok h]
  rfl

theorem performRead_of_lt (h : s.limitOf sp < s.off.toNat + n) : performRead sp n ext s = .error .bufferTooShort := by
  rw [performRead, State.operand_error h]

/-- R410, R203: the two ends of a command that reads `n` bytes, whose extended value is `r`. -/
theorem read_succeeds_and_raises {i : Instr} {r : DWord} (hi : perform i s = performRead sp n ext s)
    (hr : ext (be ((List.range n).map (s.operandByte sp))) = r) :
    (s.off.toNat + n ≤ s.limitOf sp → Succeeds i s { s with res0 := r, consumed := BitVec.ofNat 32 n }) ∧
    (s.limitOf sp < s.off.toNat + n → Raises i s .bufferTooShort) :=
  ⟨fun h => succeeds_of_perform_ok (hr ▸ hi.trans (performRead_of_le h)),
    fun h => raises_of_perform_error (hi.trans (performRead_of_lt h))⟩

end

/-! ### The values of the fields -/

section
variable (a b c d e f g h : Byte)

theorem be_one : be [a] = a.toNat := by simp [be]

theorem be_two : be [a, b] = a.toNat * 256 + b.toNat := by simp [be]

theorem be_three : be [a, b, c] = a.toNat * 65536 + b.toNat * 256 + c.toNat := by
  simp only [be, List.foldl]
  omega

theorem zext64_be_one : zext64 (be [a]) = a.setWidth 64 := by rw [be_one, zext64, BitVec.ofNat_toNat]

theorem zext64_be_four : zext64 (be [a, b, c, d]) = (0 : BitVec 32) ++ a ++ b ++ c ++ d := by
  simp only [zext64, be, List.foldl, ofNat_mul_256_add_toNat 56, ofNat_mul_256_add_toNat 48,
    ofNat_mul_256_add_toNat 40, ofNat_mul_256_add_toNat 32]
  rfl

theorem zext64_be_eight :
    zext64 (be [a, b, c, d, e, f, g, h]) = a ++ b ++ c ++ d ++ e ++ f ++ g ++ h := by
  simp [zext64, be, ofNat_mul_256_add_toNat 56, ofNat_mul_256_add_toNat 48, ofNat_mul_256_add_toNat 40,
    ofNat_mul_256_add_toNat 32, ofNat_mul_256_add_toNat 24, ofNat_mul_256_add_toNat 16, ofNat_mul_256_add_toNat 8]

/-- R9: the sign of a 16-bit field is the top bit of its first byte. -/
theorem toSigned16_be_two :
    toSigned16 (be [a, b]) = (a.toNat * 256 + b.toNat : Int) - if 128 ≤ a.toNat then 65536 else 0 := by
  rw [be_two, toSigned16, BitVec.toInt_eq_toNat_cond, BitVec.toNat_ofNat]
  have := a.isLt
  have := b.isLt
  split <;> split <;> omega

theorem sext16_be_two :
    sext16 (be [a, b]) =
      BitVec.ofInt 64 ((a.toNat * 256 + b.toNat : Int) - if 128 ≤ a.toNat then 65536 else 0) :=
  congrArg (BitVec.ofInt 64) (toSigned16_be_two a b)

end

/-! ### The commands -/

/-- Settles O9: RDU8 is the shared read of one byte, which is its own value. -/
theorem readU8FollowsItsRule : Obligations.ReadU8FollowsItsRule :=
  ⟨opcodeWords_of_forall_options (by decide) (by decide), fun _ _ => read_succeeds_and_raises rfl (zext64_be_one _)⟩

/-- Settles O10: RDU16 is the shared read of two bytes. -/
theorem readU16FollowsItsRule : Obligations.ReadU16FollowsItsRule :=
  ⟨opcodeWords_of_forall_options (by decide) (by decide),
    fun _ _ => read_succeeds_and_raises rfl (congrArg zext64 (be_two _ _))⟩

/-- Settles O11: RDU24 is the shared read of three bytes. -/
theorem readU24FollowsItsRule : Obligations.ReadU24FollowsItsRule :=
  ⟨opcodeWords_of_forall_options (by decide) (by decide),
    fun _ _ => read_succeeds_and_raises rfl (congrArg zext64 (be_three _ _ _))⟩

/-- Settles O12: RDU32 and RDF32 are one read of four bytes, so neither converts. -/
theorem readU32AndF32FollowTheirRules : Obligations.ReadU32AndF32FollowTheirRules := by
  refine ⟨opcodeWords_of_forall_options (by decide) (by decide),
    opcodeWords_of_forall_options (by decide) (by decide), fun s sp => ?_⟩
  have hi : ∀ i ∈ [Instr.rdu32 sp, Instr.rdf32 sp], perform i s = performRead sp 4 zext64 s := by simp [perform]
  have hr := zext64_be_four (s.operandByte sp 0) (s.operandByte sp 1) (s.operandByte sp 2) (s.operandByte sp 3)
  exact ⟨fun h i hmem => (read_succeeds_and_raises (hi i hmem) hr).1 h,
    fun h i hmem => (read_succeeds_and_raises (hi i hmem) hr).2 h⟩

/-- Settles O13: RDI16 is the shared read of two bytes, extended by its sign. -/
theorem readI16FollowsItsRule : Obligations.ReadI16FollowsItsRule :=
  ⟨opcodeWords_of_forall_options (by decide) (by decide),
    fun _ _ => read_succeeds_and_raises rfl (sext16_be_two _ _)⟩

/-- Settles O14: RDF64 is the shared read of eight bytes, which fill `RES0`. -/
theorem readF64FollowsItsRule : Obligations.ReadF64FollowsItsRule :=
  ⟨opcodeWords_of_forall_options (by decide) (by decide),
    fun _ _ => read_succeeds_and_raises rfl (zext64_be_eight _ _ _ _ _ _ _ _)⟩

end Sys2Proof.Machine
end

section
/-! The integer encoder (42_integer_encoder.md): the write that its seven commands share (R420), the commands (R421 to
R427), and what the matching reads of the field extractor return afterwards (R428). -/

namespace Sys2Proof.Machine

/-! ### The shared rule of the writes -/

theorem beBytes_getD {k n : Nat} (v : DWord) (h : k < n) :
    (beBytes n v).getD k 0 = v.extractLsb' (8 * (n - 1 - k)) 8 := by
  simp [beBytes, h]

/-- R206: a write of a value's low bytes at `OFF` stores them, and no other byte. -/
theorem stores_storeBytes_beBytes (s : State) (n : Nat) (v : DWord) :
    Stores s (Memory.storeBytes s.buf s.off.toNat (beBytes n v)) (beBytes n v) := by
  intro a
  rw [State.bufByte_storeBytes_beBytes, beBytes_length]
  split
  next h => rw [beBytes_getD v (by omega)]
  next => rfl

section
variable {s : State} {n : Nat}

theorem performWrite_of_le (h : s.off.toNat + n ≤ s.limit.val) :
    performWrite n s = .ok (s.withStored s.off.toNat n s.val) := by
  simp [performWrite, State.inBounds, State.limitOf, h]

theorem performWrite_of_lt (h : s.limit.val < s.off.toNat + n) : performWrite n s = .error .bufferTooShort := by
  simp [performWrite, State.inBounds, State.limitOf, Nat.not_le.2 h]

/-- R420, R203: the two ends of a command that writes the `n` low bytes of `VAL`, which are `bs`. -/
theorem write_stores_and_raises {i : Instr} {bs : List Byte} (hi : perform i s = performWrite n s)
    (hbs : beBytes n s.val = bs) :
    (s.off.toNat + n ≤ s.limit.val →
      ∃ m, Succeeds i s { s with buf := m, consumed := BitVec.ofNat 32 n } ∧ Stores s m bs) ∧
    (s.limit.val < s.off.toNat + n → Raises i s .bufferTooShort) :=
  ⟨fun h => ⟨_, succeeds_of_perform_ok (hi.trans (performWrite_of_le h)),
      hbs ▸ stores_storeBytes_beBytes s n s.val⟩,
    fun h => raises_of_perform_error (hi.trans (performWrite_of_lt h))⟩

end

/-! ### The commands -/

/-- Settles O15: WRU8 is the shared write of one byte. -/
theorem writeU8FollowsItsRule : Obligations.WriteU8FollowsItsRule :=
  ⟨opcodeWords_of_forall_options (by decide) (by decide), fun _ => write_stores_and_raises rfl rfl⟩

/-- Settles O16: WRU16 and WRI16 are one write of two bytes, so the sign plays no part. -/
theorem writeU16AndI16FollowTheirRules : Obligations.WriteU16AndI16FollowTheirRules := by
  refine ⟨opcodeWords_of_forall_options (by decide) (by decide),
    opcodeWords_of_forall_options (by decide) (by decide), fun s i hmem => ?_⟩
  have hi : ∀ i ∈ [Instr.wru16, Instr.wri16], perform i s = performWrite 2 s := by simp [perform]
  exact write_stores_and_raises (hi i hmem) rfl

/-- Settles O17: WRU24 is the shared write of three bytes. -/
theorem writeU24FollowsItsRule : Obligations.WriteU24FollowsItsRule :=
  ⟨opcodeWords_of_forall_options (by decide) (by decide), fun _ => write_stores_and_raises rfl rfl⟩

/-- Settles O18: WRU32 and WRF32 are one write of four bytes, so neither converts. -/
theorem writeU32AndF32FollowTheirRules : Obligations.WriteU32AndF32FollowTheirRules := by
  refine ⟨opcodeWords_of_forall_options (by decide) (by decide),
    opcodeWords_of_forall_options (by decide) (by decide), fun s i hmem => ?_⟩
  have hi : ∀ i ∈ [Instr.wru32, Instr.wrf32], perform i s = performWrite 4 s := by simp [perform]
  exact write_stores_and_raises (hi i hmem) rfl

/-- Settles O19: WRF64 is the shared write of eight bytes, the whole of `VAL`. -/
theorem writeF64FollowsItsRule : Obligations.WriteF64FollowsItsRule :=
  ⟨opcodeWords_of_forall_options (by decide) (by decide), fun _ => write_stores_and_raises rfl rfl⟩

/-! ### Reading back what was written -/

/-- R9, R206: the last byte of a field is the low byte of its value, and the bytes before it are those of the value
shifted right by one byte. -/
theorem beBytes_succ (n : Nat) (v : DWord) : beBytes (n + 1) v = beBytes n (v >>> 8) ++ [v.extractLsb' 0 8] := by
  rw [beBytes, List.range_succ, List.map_append]
  congr 1
  · refine List.map_congr_left fun k hk => ?_
    have hk : k < n := List.mem_range.1 hk
    ext j hj
    simp only [BitVec.getElem_extractLsb', BitVec.getLsbD_ushiftRight]
    congr 1
    omega
  · simp

/-- R9, R206: `BE` undoes the split of a value into bytes, up to the width of the field. -/
theorem be_beBytes (n : Nat) (v : DWord) : be (beBytes n v) = (v.extractLsb' 0 (8 * n)).toNat := by
  induction n generalizing v with
  | zero => simp [beBytes, be, Nat.mod_one]
  | succ n ih =>
    calc be (beBytes (n + 1) v)
      _ = be (beBytes n (v >>> 8)) * 256 + (v.extractLsb' 0 8).toNat := by simp [beBytes_succ, be]
      _ = v.toNat / 2 ^ 8 % 2 ^ (8 * n) * 256 + v.toNat % 2 ^ 8 := by
        simp [ih, BitVec.extractLsb'_toNat, Nat.shiftRight_eq_div_pow]
      _ = v.toNat % (2 ^ 8 * 2 ^ (8 * n)) := by rw [Nat.mod_mul]; omega
      _ = (v.extractLsb' 0 (8 * (n + 1))).toNat := by
        rw [BitVec.extractLsb'_toNat, Nat.shiftRight_zero, ← Nat.pow_add, Nat.mul_succ, Nat.add_comm]

/-- R402: a command that left `STATUS.ERR` clear computed its state. -/
theorem exists_perform_ok_of_err_eq_false {i : Instr} {s t : State} (h : exec i s = .next t) (herr : t.err = false) :
    ∃ r, perform i s = .ok r ∧ t = r.succeed := by
  obtain ⟨r, hr, hok⟩ | ⟨e, -, hfail⟩ := exec_cases i s
  · cases hok.symm.trans h
    exact ⟨r, hr, rfl⟩
  · cases hfail.symm.trans h
    simp at herr

section
variable {s t u : State} {n : Nat} {i j : Instr} (hi : perform i s = performWrite n s)
  (h : exec i s = .next t) (herr : t.err = false) (hkeep : t.KeepsField u n)
include hi h herr hkeep

/-- R428: while the field is kept, its bytes are those of the `VAL` that was written. -/
theorem operandBytes_of_keepsField : (List.range n).map (u.operandByte .buf) = beBytes n s.val := by
  obtain ⟨r, hr, rfl⟩ := exists_perform_ok_of_err_eq_false h herr
  obtain rfl := performWrite_ok (hi.symm.trans hr)
  obtain ⟨hoff, -, hbytes⟩ := hkeep
  refine List.map_congr_left fun k hk => ?_
  have hk : k < n := List.mem_range.1 hk
  calc u.operandByte .buf k
    _ = u.bufByte (s.off.toNat + k) := by rw [State.operandByte, hoff]; rfl
    _ = ({ s with buf := Memory.storeBytes s.buf s.off.toNat (beBytes n s.val) } : State).bufByte (s.off.toNat + k) :=
        hbytes k hk
    _ = s.val.extractLsb' (8 * (n - 1 - k)) 8 := by simp [State.bufByte_storeBytes_beBytes, hk]

/-- R428: the read of the field's width succeeds, with the low bits of the `VAL` that was written, extended. -/
theorem read_succeeds_of_keepsField {ext : Nat → DWord} {r : DWord} (hj : perform j u = performRead .buf n ext u)
    (hr : ext (s.val.extractLsb' 0 (8 * n)).toNat = r) :
    Succeeds j u { u with res0 := r, consumed := BitVec.ofNat 32 n } := by
  have hvalue : ext (be ((List.range n).map (u.operandByte .buf))) = r := by
    rw [operandBytes_of_keepsField hi h herr hkeep, be_beBytes, hr]
  obtain ⟨hoff, hlimit, -⟩ := hkeep
  exact (read_succeeds_and_raises hj hvalue).1 (hoff ▸ hlimit)

end

theorem zext64_toNat {w : Nat} (x : BitVec w) : zext64 x.toNat = x.setWidth 64 := BitVec.ofNat_toNat 64 x

theorem sext16_toNat (x : BitVec 16) : sext16 x.toNat = x.signExtend 64 := by
  rw [sext16, BitVec.ofNat_toNat, BitVec.setWidth_eq]

/-- Settles O20: each pair writes and reads one number of bytes, and the read extends what `BE` makes of them. -/
theorem writtenFieldReadsBack : Obligations.WrittenFieldReadsBack := by
  refine ⟨?wru8, ?wru16, ?wru24, ?wru32, ?wri16, ?wrf32, ?wrf64⟩ <;> intro s t u h herr hkeep
  case wri16 => exact read_succeeds_of_keepsField rfl h herr hkeep rfl (sext16_toNat _)
  case wrf64 =>
    have hval : zext64 (s.val.extractLsb' 0 64).toNat = s.val := by
      rw [zext64_toNat, BitVec.extractLsb'_eq_self, BitVec.setWidth_eq]
    exact read_succeeds_of_keepsField rfl h herr hkeep rfl hval
  case wru8 | wru16 | wru24 | wru32 | wrf32 =>
    exact read_succeeds_of_keepsField rfl h herr hkeep rfl (zext64_toNat _)

end Sys2Proof.Machine
end

section
/-! The checksums (43_crc.md): the residue of CRC-CCITT and the check values (R431 to R433), the trailer of a frame
image (R438), and the two rules that the four commands share (R434 to R437). -/

namespace Sys2Proof.Machine

/-! ### The residue of CRC-CCITT -/

theorem ccittBit_of_getLsbD_eq_false {c : BitVec 16} (h : c.getLsbD 15 = false) : ccittBit c = c <<< 1 := by
  rw [ccittBit, h, if_neg Bool.false_ne_true]

/-- R431: while the checksum is a byte that has not yet been shifted out, a step only shifts. -/
theorem ccittBit_shiftLeft_setWidth (b : Byte) {k : Nat} (hk : k < 8) :
    ccittBit (b.setWidth 16 <<< k) = b.setWidth 16 <<< (k + 1) := by
  have htop : (b.setWidth 16 <<< k).getLsbD 15 = false := by
    rw [BitVec.getLsbD_shiftLeft, BitVec.getLsbD_setWidth, BitVec.getLsbD_of_ge b _ (by omega)]
    simp
  rw [ccittBit_of_getLsbD_eq_false htop, BitVec.shiftLeft_add]

theorem eightTimes_ccittBit_setWidth (b : Byte) : eightTimes ccittBit (b.setWidth 16) = b.setWidth 16 <<< 8 := by
  have hfirst : ccittBit (b.setWidth 16) = b.setWidth 16 <<< 1 := by
    simpa using ccittBit_shiftLeft_setWidth b (k := 0) (by decide)
  simp only [eightTimes, hfirst, ccittBit_shiftLeft_setWidth b, Nat.reduceLT, Nat.reduceAdd]

theorem xor_high_byte (c : BitVec 16) :
    c ^^^ ((c.extractLsb' 8 8).setWidth 16 <<< 8) = (c.extractLsb' 0 8).setWidth 16 := by
  ext j hj
  by_cases h : j < 8
  · simp [h, hj, BitVec.getLsbD_eq_getElem]
  · have hindex : 8 + (j - 8) = j := by omega
    have hlt : j - 8 < 8 := by omega
    simp [h, hj, hindex, hlt, BitVec.getLsbD_eq_getElem]

theorem low_byte_shiftLeft (c : BitVec 16) : (c.extractLsb' 0 8).setWidth 16 <<< 8 = c <<< 8 := by
  ext j hj
  have hlt : j - 8 < 8 := by omega
  have hle : j - 8 < 16 := by omega
  simp [hlt, BitVec.getLsbD_eq_getElem hle]

theorem high_byte_shiftLeft (c : BitVec 16) : (c <<< 8).extractLsb' 8 8 = c.extractLsb' 0 8 := by
  ext j hj
  have hlt : 8 + j < 16 := by omega
  simp [hlt, ← BitVec.getLsbD_eq_getElem]

/-- R431: a byte equal to the high byte of the checksum cancels it, and the low byte takes its place. -/
theorem ccittByte_high_byte (c : BitVec 16) : ccittByte c (c.extractLsb' 8 8) = c <<< 8 := by
  rw [ccittByte, xor_high_byte, eightTimes_ccittBit_setWidth, low_byte_shiftLeft]

/-- R433: each byte of the trailer cancels the byte of the checksum that it equals. -/
theorem foldl_ccittByte_own_bytes (c : BitVec 16) :
    [c.extractLsb' 8 8, c.extractLsb' 0 8].foldl ccittByte c = 0x0000 := by
  calc ccittByte (ccittByte c (c.extractLsb' 8 8)) (c.extractLsb' 0 8)
    _ = ccittByte (c <<< 8) ((c <<< 8).extractLsb' 8 8) := by rw [ccittByte_high_byte, high_byte_shiftLeft]
    _ = c <<< 8 <<< 8 := ccittByte_high_byte _
    _ = 0x0000 := by simp [← BitVec.shiftLeft_add]

/-- Settles O25: over no bytes the loops leave their initial value, the trailer's two bytes take the checksum to 0, and
the check values are computed. -/
theorem crcOfEmptyListAndCcittResidue : Obligations.CrcOfEmptyListAndCcittResidue :=
  ⟨rfl, fun _ => rfl, fun bs => (crcCcitt_append _ _).trans (foldl_ccittByte_own_bytes _),
    by decide +kernel, by decide +kernel⟩

/-! ### The range of a checksum command -/

section
variable {s : State} {sp : Space} {g : CrcAlg}

theorem performCrc_of_le (h : s.off.toNat + s.len.toNat ≤ s.limitOf sp) :
    performCrc g sp s =
      .ok (s.withResult ((crc s.cfg.crc16 g (s.memRead sp s.off.toNat s.len.toNat)).setWidth 64) s.len) := by
  rw [performCrc, State.operand_ok h]

theorem performCrc_of_lt (h : s.limitOf sp < s.off.toNat + s.len.toNat) :
    performCrc g sp s = .error .bufferTooShort := by
  rw [performCrc, State.operand_error h]

/-- R434, R435, R203: the two ends of a command that computes the checksum of its range. -/
theorem crc_succeeds_and_raises {i : Instr} (hi : perform i s = performCrc g sp s) :
    (s.off.toNat + s.len.toNat ≤ s.limitOf sp →
      Succeeds i s
        { s with
          res0 := (crc s.cfg.crc16 g (s.memRead sp s.off.toNat s.len.toNat)).setWidth 64
          consumed := s.len }) ∧
    (s.limitOf sp < s.off.toNat + s.len.toNat → Raises i s .bufferTooShort) :=
  ⟨fun h => succeeds_of_perform_ok (hi.trans (performCrc_of_le h)),
    fun h => raises_of_perform_error (hi.trans (performCrc_of_lt h))⟩

end

/-- Settles O21: CRCCCITT is the shared rule under CRC-CCITT. -/
theorem crcCcittCommandFollowsItsRule : Obligations.CrcCcittCommandFollowsItsRule :=
  ⟨opcodeWords_of_forall_options (by decide) (by decide), fun _ _ => crc_succeeds_and_raises (g := .ccitt) rfl⟩

/-- Settles O22: CRC16 is the shared rule under CRC-16. -/
theorem crc16CommandFollowsItsRule : Obligations.Crc16CommandFollowsItsRule :=
  ⟨opcodeWords_of_forall_options (by decide) (by decide), fun _ _ => crc_succeeds_and_raises (g := .crc16) rfl⟩

/-! ### The trailer of a frame image -/

theorem bodyCrc_append_pair (cfg : Crc16Cfg) (g : CrcAlg) (xs : List Byte) (a b : Byte) :
    bodyCrc cfg g (xs ++ [a, b]) = crc cfg g xs := by
  simp [bodyCrc]

theorem trailer_append_pair (xs : List Byte) (a b : Byte) : trailer (xs ++ [a, b]) = a ++ b := by
  have hdrop : (xs ++ [a, b]).drop ((xs ++ [a, b]).length - 2) = [a, b] := by simp
  rw [trailer, hdrop, be_two, ofNat_mul_256_add_toNat 8, BitVec.ofNat_toNat, BitVec.setWidth_eq]

/-- R205, R438: a range of two bytes or more is its body and the two bytes of its trailer. -/
theorem State.memRead_off_eq_append_pair (s : State) (sp : Space) {n : Nat} (h : 2 ≤ n) :
    s.memRead sp s.off.toNat n =
      s.memRead sp s.off.toNat (n - 2) ++ [s.operandByte sp (n - 2), s.operandByte sp (n - 1)] := by
  obtain ⟨m, rfl⟩ := Nat.exists_eq_add_of_le' h
  simp [State.memRead, List.range_succ, State.operandByte]

/-! ### The check of a trailer -/

section
variable {s : State} {sp : Space} {g : CrcAlg}

theorem performChk_of_short (h : s.len.toNat < 2 ∨ s.limitOf sp < s.off.toNat + s.len.toNat) :
    performChk g sp s = .error .bufferTooShort := by
  rw [performChk]
  split
  next => rfl
  next hlen => rw [State.operand_error (h.resolve_left hlen)]

variable {computed stored : BitVec 16} (hlen : 2 ≤ s.len.toNat) (hlimit : s.off.toNat + s.len.toNat ≤ s.limitOf sp)
  (hcomputed : computed = crc s.cfg.crc16 g (s.memRead sp s.off.toNat (s.len.toNat - 2)))
  (hstored : stored = s.operandByte sp (s.len.toNat - 2) ++ s.operandByte sp (s.len.toNat - 1))
include hlen hlimit hcomputed hstored

theorem performChk_of_le :
    performChk g sp s =
      if computed ≠ stored then .error .checksumMismatch
      else .ok (s.withResults (computed.setWidth 64) (stored.setWidth 64) s.len) := by
  rw [performChk, if_neg (Nat.not_lt.2 hlen), State.operand_ok hlimit]
  simp only [s.memRead_off_eq_append_pair sp hlen, bodyCrc_append_pair, trailer_append_pair, ← hcomputed, ← hstored]

end

/-- R436, R437, R203: the ends of a command that checks the trailer of its range, in the order of the checks. -/
theorem chk_raises_and_succeeds {s : State} {sp : Space} {g : CrcAlg} {i : Instr}
    (hi : perform i s = performChk g sp s) :
    (s.len.toNat < 2 ∨ s.limitOf sp < s.off.toNat + s.len.toNat → Raises i s .bufferTooShort) ∧
    (2 ≤ s.len.toNat → s.off.toNat + s.len.toNat ≤ s.limitOf sp →
      ∀ computed stored : BitVec 16,
        computed = crc s.cfg.crc16 g (s.memRead sp s.off.toNat (s.len.toNat - 2)) →
        stored = s.operandByte sp (s.len.toNat - 2) ++ s.operandByte sp (s.len.toNat - 1) →
        (computed ≠ stored → Raises i s .checksumMismatch) ∧
        (computed = stored →
          Succeeds i s
            { s with res0 := computed.setWidth 64, res1 := stored.setWidth 64, consumed := s.len })) := by
  refine ⟨fun h => raises_of_perform_error (hi.trans (performChk_of_short h)),
    fun hlen hlimit computed stored hcomputed hstored => ?_⟩
  have hchk := hi.trans (performChk_of_le hlen hlimit hcomputed hstored)
  exact ⟨fun hne => raises_of_perform_error (hchk.trans (if_pos hne)),
    fun heq => succeeds_of_perform_ok (hchk.trans (if_neg (not_not.2 heq)))⟩

/-- Settles O23: CHKCCITT is the shared rule under CRC-CCITT. -/
theorem chkCcittFollowsItsRule : Obligations.ChkCcittFollowsItsRule :=
  ⟨opcodeWords_of_forall_options (by decide) (by decide), fun _ _ => chk_raises_and_succeeds (g := .ccitt) rfl⟩

/-- Settles O24: CHK16 is the shared rule under CRC-16. -/
theorem chk16FollowsItsRule : Obligations.Chk16FollowsItsRule :=
  ⟨opcodeWords_of_forall_options (by decide) (by decide), fun _ _ => chk_raises_and_succeeds (g := .crc16) rfl⟩

end Sys2Proof.Machine
end

section
/-! The header commands (44_frame_header.md): the fields of a frame header (R440, R441), its plausibility check (R443),
and the commands HDRPARSE (R446) and SETDLEN (R447). -/

namespace Sys2Proof.Machine

/-! ### Byte 1 of a header, and the check of it -/

theorem typeCode_toNat (b1 : Byte) : (typeCode b1).toNat = b1.toNat / 16 % 8 := by
  simp [typeCode, Nat.shiftRight_eq_div_pow]

theorem versionCode_toNat (b1 : Byte) : (versionCode b1).toNat = b1.toNat % 16 := by
  simp [versionCode]

/-- R441: the reserved type codes are the two above 5. -/
theorem typeCode_reserved_iff (b1 : Byte) : typeCode b1 = 6 ∨ typeCode b1 = 7 ↔ 6 ≤ b1.toNat / 16 % 8 := by
  have h6 : (6 : BitVec 3).toNat = 6 := rfl
  have h7 : (7 : BitVec 3).toNat = 7 := rfl
  rw [← BitVec.toNat_inj, ← BitVec.toNat_inj, typeCode_toNat, h6, h7]
  omega

theorem getLsbD_seven (b1 : Byte) : b1.getLsbD 7 = decide (128 ≤ b1.toNat) :=
  b1.msb_eq_getLsbD_last.symm.trans b1.msb_eq_decide

section
variable {b1 : Byte} {fl : Nat}

theorem hdrCheck_of_invalid (h : 6 ≤ b1.toNat / 16 % 8 ∨ 3 < b1.toNat % 16) :
    hdrCheck b1 fl = some .invalidFrameTypeOrVersion := by
  rw [hdrCheck, if_pos]
  rwa [← or_assoc, typeCode_reserved_iff, versionCode_toNat]

theorem hdrCheck_of_valid (htype : b1.toNat / 16 % 8 ≤ 5) (hver : b1.toNat % 16 ≤ 3) :
    hdrCheck b1 fl = if fl < 16 then some .frameLengthTooShort else none := by
  rw [hdrCheck, if_neg]
  · rfl
  · rw [← or_assoc, typeCode_reserved_iff, versionCode_toNat, versionMax]
    omega

end

/-! ### The fields of a header, byte by byte -/

theorem ofNat_be_two (x y : Byte) : BitVec.ofNat 16 (be [x, y]) = x ++ y := by
  simp [be, ofNat_mul_256_add_toNat 8]

theorem ofNat_be_three (x y z : Byte) : BitVec.ofNat 24 (be [x, y, z]) = x ++ y ++ z := by
  simp [be, ofNat_mul_256_add_toNat 16, ofNat_mul_256_add_toNat 8]

section
variable (b : Nat → Byte)

theorem declaredLen_map_range : declaredLen ((List.range 14).map b) = (b 2).toNat * 256 + (b 3).toNat :=
  be_two (b 2) (b 3)

/-- R440, R441, R446: the header registers' values, from the 14 bytes. -/
theorem headerFields_map_range :
    headerFields ((List.range 14).map b) = {
      b7 := decide (128 ≤ (b 1).toNat), ftype := BitVec.ofNat 3 ((b 1).toNat / 16 % 8),
      ver := BitVec.ofNat 4 ((b 1).toNat % 16), flen := b 2 ++ b 3, id := b 4 ++ b 5,
      soc := b 6 ++ b 7 ++ b 8 ++ b 9, tq := b 10, frac := b 11 ++ b 12 ++ b 13,
      dlen := BitVec.ofNat 16 ((b 2).toNat * 256 + (b 3).toNat - 16) } := by
  rw [← getLsbD_seven, ← typeCode_toNat, ← versionCode_toNat, BitVec.ofNat_toNat, BitVec.ofNat_toNat,
    BitVec.setWidth_eq, BitVec.setWidth_eq, ← declaredLen_map_range b, ← ofNat_be_two, ← ofNat_be_two,
    ← ofNat_be_four, ← ofNat_be_three]
  rfl

end

/-! ### HDRPARSE -/

section
variable {s : State} {sp : Space} {b : Nat → Byte} {fl : Nat}

theorem performHdrparse_of_lt (h : s.limitOf sp < s.off.toNat + 14) :
    performHdrparse sp s = .error .bufferTooShort := by
  rw [performHdrparse, headerLen, State.operand_error h]

variable (hb : b = s.operandByte sp) (hfl : fl = (b 2).toNat * 256 + (b 3).toNat)
  (hlimit : s.off.toNat + 14 ≤ s.limitOf sp)
include hb hlimit

theorem operand_header : s.operand sp headerLen = .ok ((List.range 14).map b) := by
  rw [hb]
  exact State.operand_ok hlimit

theorem performHdrparse_of_sync_ne (hsync : b 0 ≠ 0xAA) : performHdrparse sp s = .error .syncByteMismatch := by
  rw [performHdrparse, operand_header hb hlimit]
  exact if_pos hsync

variable (hsync : b 0 = 0xAA)
include hfl hsync

/-- R446, once byte 0 is the sync byte: the check of R443, then the bounds of the whole frame. -/
theorem performHdrparse_of_sync_eq :
    performHdrparse sp s =
      (hdrCheck (b 1) fl).elim
        (if s.inBounds sp s.off.toNat fl then .ok (s.withHeader (headerFields ((List.range 14).map b)) 14)
          else .error .bufferTooShort)
        .error := by
  rw [performHdrparse, operand_header hb hlimit, hfl, ← declaredLen_map_range b]
  refine (if_neg (not_not.2 hsync)).trans ?_
  have hbyte : ((List.range 14).map b).getD 1 0 = b 1 := rfl
  rw [hbyte]
  cases hdrCheck (b 1) (declaredLen ((List.range 14).map b)) <;> rfl

end

/-- Settles O28: the checks in the order of R446, each with the one before it passed, then the fields read
byte by byte. -/
theorem hdrparseFollowsItsRule : Obligations.HdrparseFollowsItsRule := by
  refine ⟨opcodeWords_of_forall_options (by decide) (by decide), fun s sp b ftype ver fl hb hftype hver hfl =>
    ⟨fun h => raises_of_perform_error (performHdrparse_of_lt h), fun hlimit =>
      ⟨fun h => raises_of_perform_error (performHdrparse_of_sync_ne hb hlimit h), fun hsync => ?_⟩⟩⟩
  have hparse := performHdrparse_of_sync_eq hb hfl hlimit hsync
  subst hftype hver
  refine ⟨fun hinvalid => ?invalid, fun htype hver => ?valid⟩
  case invalid =>
    rw [hdrCheck_of_invalid hinvalid] at hparse
    exact raises_of_perform_error hparse
  case valid =>
    rw [hdrCheck_of_valid htype hver] at hparse
    refine ⟨fun hshort => ?short, fun hlen hover => ?beyond, fun hlen hin => ?parsed⟩
    case short =>
      rw [if_pos hshort] at hparse
      exact raises_of_perform_error hparse
    case beyond =>
      rw [if_neg (Nat.not_lt.2 hlen)] at hparse
      exact raises_of_perform_error (hparse.trans (if_neg (by simpa [State.inBounds] using hover)))
    case parsed =>
      rw [if_neg (Nat.not_lt.2 hlen), headerFields_map_range, ← hfl] at hparse
      exact succeeds_of_perform_ok (hparse.trans (if_pos (by simpa [State.inBounds] using hin)))

/-! ### SETDLEN -/

theorem ofNat_toNat_add_sixteen (v : DWord) : BitVec.ofNat 64 (v.toNat + 16) = v + 16 := by
  rw [BitVec.ofNat_add, BitVec.ofNat_toNat, BitVec.setWidth_eq]
  rfl

theorem ofNat_toNat_add_sixteen_eq_extractLsb' (v : DWord) :
    BitVec.ofNat 16 (v.toNat + 16) = (v + 16).extractLsb' 0 16 := by
  rw [← ofNat_toNat_add_sixteen]
  apply BitVec.eq_of_toNat_eq
  simp

/-- R447: the sums of the length registers, taken in the width of `VAL`. -/
theorem State.withDataLength_val_toNat (s : State) :
    s.withDataLength s.val.toNat =
      { s with
        hdr := { s.hdr with dlen := s.val.extractLsb' 0 16, flen := (s.val + 16).extractLsb' 0 16 }
        res0 := s.val + 16 } := by
  rw [State.withDataLength, ofNat_toNat_add_sixteen, ofNat_toNat_add_sixteen_eq_extractLsb']
  rfl

/-- Settles O29: one comparison decides the command, and the lengths it stores are those of `VAL`. -/
theorem setdlenFollowsItsRule : Obligations.SetdlenFollowsItsRule := by
  refine ⟨opcodeWords_of_forall_options (by decide) (by decide), fun s => ⟨fun h => ?_, fun h => ?_⟩⟩
  · rw [← s.withDataLength_val_toNat]
    exact succeeds_of_perform_ok (if_neg (Nat.not_lt.2 h))
  · exact raises_of_perform_error (if_pos h)

end Sys2Proof.Machine
end

section
/-! The numeric decoder (45_numeric_decoder.md): the exactness of its two conversions (R451, R453), the rule its commands
share, and the commands (R455 to R457). -/

namespace Sys2Proof.Machine

/-! ### Patterns of finite values -/

/-- `a` is the finite binary64 pattern with that sign bit and the magnitude `units * 2^-1074`. -/
def Encodes (a : DWord) (sign : Bool) (units : Nat) : Prop :=
  sign64 a = sign ∧ mag64 a < infMag ∧ units64 (mag64 a) = units

section
variable {mag : Nat} (sign : Bool)

theorem toNat_pack64 (h : mag < 2 ^ 63) : (pack64 sign mag).toNat = sign.toNat * 2 ^ 63 + mag := by
  have := sign.toNat_le
  rw [pack64, BitVec.toNat_ofNat]
  omega

theorem sign64_pack64 (h : mag < 2 ^ 63) : sign64 (pack64 sign mag) = sign := by
  have htop : sign64 (pack64 sign mag) = decide (2 ^ 63 ≤ (pack64 sign mag).toNat) :=
    (pack64 sign mag).msb_eq_getLsbD_last.symm.trans (pack64 sign mag).msb_eq_decide
  rw [htop, toNat_pack64 sign h]
  cases sign
  · simpa using h
  · simp

theorem mag64_pack64 (h : mag < 2 ^ 63) : mag64 (pack64 sign mag) = mag := by
  rw [mag64, toNat_pack64 sign h]
  omega

theorem encodes_pack64 (h : mag < infMag) : Encodes (pack64 sign mag) sign (units64 mag) := by
  have hlt : mag < 2 ^ 63 := h.trans (by decide)
  exact ⟨sign64_pack64 sign hlt, (mag64_pack64 sign hlt).symm ▸ h, congrArg units64 (mag64_pack64 sign hlt)⟩

end

/-! ### Normal numbers -/

/-- The value of a normal number, from its exponent `e` and its fraction `f`. -/
theorem units64_normal {e f : Nat} (he : 1 ≤ e) (hf : f < 2 ^ 52) :
    units64 (e * 2 ^ 52 + f) = (2 ^ 52 + f) * 2 ^ (e - 1) := by
  have hmod : (e * 2 ^ 52 + f) % 2 ^ 52 = f := by omega
  have hdiv : (e * 2 ^ 52 + f) / 2 ^ 52 = e := by omega
  rw [units64, if_neg (by omega), hmod, hdiv]

section
variable {n k : Nat} (hn : n ≠ 0) (hlt : n < 2 ^ 53)
include hn hlt

theorem log2_le_52 : n.log2 ≤ 52 := Nat.le_of_lt_succ ((Nat.log2_lt hn).2 hlt)

/-- Shifted up so that its leading bit is bit 52, `n` is a significand of 53 bits. -/
theorem shifted_significand_bounds : 2 ^ 52 ≤ n * 2 ^ (52 - n.log2) ∧ n * 2 ^ (52 - n.log2) < 2 ^ 53 := by
  have hlog := log2_le_52 hn hlt
  constructor
  · calc 2 ^ 52
      _ = 2 ^ n.log2 * 2 ^ (52 - n.log2) := by rw [← Nat.pow_add, Nat.add_sub_cancel' hlog]
      _ ≤ n * 2 ^ (52 - n.log2) := Nat.mul_le_mul_right _ (Nat.log2_self_le hn)
  · calc n * 2 ^ (52 - n.log2)
      _ < 2 ^ (n.log2 + 1) * 2 ^ (52 - n.log2) := Nat.mul_lt_mul_of_pos_right Nat.lt_log2_self (Nat.two_pow_pos _)
      _ = 2 ^ 53 := by rw [← Nat.pow_add]; congr 1; omega

theorem normalMag_lt_infMag (hk : k ≤ 2045) : normalMag n (k + 1) < infMag := by
  have hlog := log2_le_52 hn hlt
  obtain ⟨-, hsig⟩ := shifted_significand_bounds hn hlt
  unfold normalMag infMag
  omega

/-- The scale `k + 1` of the model's `normalMag` counts units of `2^k` smallest subnormals. -/
theorem units64_normalMag (hk : 52 ≤ k) : units64 (normalMag n (k + 1)) = n * 2 ^ k := by
  have hlog := log2_le_52 hn hlt
  obtain ⟨hlow, hhigh⟩ := shifted_significand_bounds hn hlt
  calc units64 (normalMag n (k + 1))
    _ = (2 ^ 52 + (n * 2 ^ (52 - n.log2) - 2 ^ 52)) * 2 ^ (k + 1 + n.log2 - 52 - 1) :=
        units64_normal (by omega) (by omega)
    _ = n * (2 ^ (52 - n.log2) * 2 ^ (k + 1 + n.log2 - 52 - 1)) := by rw [Nat.add_sub_cancel' hlow, Nat.mul_assoc]
    _ = n * 2 ^ k := by rw [← Nat.pow_add]; congr 2; omega

theorem encodes_pack64_normalMag (sign : Bool) (hk : 52 ≤ k) (hk' : k ≤ 2045) :
    Encodes (pack64 sign (normalMag n (k + 1))) sign (n * 2 ^ k) :=
  units64_normalMag hn hlt hk ▸ encodes_pack64 sign (normalMag_lt_infMag hn hlt hk')

end

/-- A zero is the value 0, whatever its units. -/
theorem encodes_pack64_zero (sign : Bool) (unit : Nat) : Encodes (pack64 sign 0) sign (0 * unit) :=
  (Nat.zero_mul unit).symm ▸ encodes_pack64 sign (by decide)

/-! ### Integers to binary64 -/

theorem encodes_intToF64 {i : Int} (h : i.natAbs < 2 ^ 53) :
    Encodes (intToF64 i) (decide (i < 0)) (i.natAbs * 2 ^ 1074) := by
  rw [intToF64]
  split
  next hzero =>
    rw [hzero, decide_eq_false (by omega)]
    exact encodes_pack64_zero false _
  next hne => exact encodes_pack64_normalMag hne h _ (by decide) (by decide)

/-! ### binary32 to binary64 -/

theorem units32_subnormal {m : Nat} (hm : m < 2 ^ 23) : units32 m = m := if_pos hm

/-- The value of a normal binary32 number, from its exponent `e` and its fraction `m`. -/
theorem units32_normal {e m : Nat} (he : 1 ≤ e) (hm : m < 2 ^ 23) :
    units32 (e * 2 ^ 23 + m) = (2 ^ 23 + m) * 2 ^ (e - 1) := by
  have hmod : (e * 2 ^ 23 + m) % 2 ^ 23 = m := by omega
  have hdiv : (e * 2 ^ 23 + m) / 2 ^ 23 = e := by omega
  rw [units32, if_neg (by omega), hmod, hdiv]

section
variable (x : BitVec 32)

theorem ofBool_getLsbD_eq_extractLsb' : BitVec.ofBool (x.getLsbD 31) = x.extractLsb' 31 1 := by
  ext j hj
  obtain rfl : j = 0 := by omega
  simp

theorem pack64_infMag (sign : Bool) :
    pack64 sign infMag = BitVec.ofBool sign ++ (0x7FF : BitVec 11) ++ (0 : BitVec 52) := by
  cases sign <;> decide

theorem toNat_mod_eq_exponent_fraction :
    x.toNat % 2 ^ 31 = (x.extractLsb' 23 8).toNat * 2 ^ 23 + (x.extractLsb' 0 23).toNat := by
  rw [BitVec.extractLsb'_toNat, BitVec.extractLsb'_toNat, Nat.shiftRight_eq_div_pow, Nat.shiftRight_zero]
  omega

variable {x}

theorem cvtF32F64_nan (he : x.extractLsb' 23 8 = 0xFF) (hm : x.extractLsb' 0 23 ≠ 0) :
    cvtF32F64 x =
      x.extractLsb' 31 1 ++ (0x7FF : BitVec 11) ++ (1 : BitVec 1) ++ x.extractLsb' 0 22 ++ (0 : BitVec 29) := by
  have hm' : (x.extractLsb' 0 23).toNat ≠ 0 := fun h => hm (BitVec.eq_of_toNat_eq h)
  rw [← ofBool_getLsbD_eq_extractLsb']
  simp only [cvtF32F64, he]
  exact (if_pos rfl).trans (if_pos hm')

theorem cvtF32F64_infinity (he : x.extractLsb' 23 8 = 0xFF) (hm : x.extractLsb' 0 23 = 0) :
    cvtF32F64 x = x.extractLsb' 31 1 ++ (0x7FF : BitVec 11) ++ (0 : BitVec 52) := by
  rw [← ofBool_getLsbD_eq_extractLsb', ← pack64_infMag]
  simp only [cvtF32F64, he, hm]
  rfl

/-- R451: a zero and a subnormal are their fraction in units of `2^-149`, any other finite value its significand, scaled. -/
theorem encodes_cvtF32F64 (he : x.extractLsb' 23 8 ≠ 0xFF) :
    Encodes (cvtF32F64 x) (x.getLsbD 31) (units32 (x.toNat % 2 ^ 31) * 2 ^ 925) := by
  have he' : (x.extractLsb' 23 8).toNat ≠ 0xFF := fun h => he (BitVec.eq_of_toNat_eq h)
  rw [toNat_mod_eq_exponent_fraction]
  have hebound : (x.extractLsb' 23 8).toNat < 2 ^ 8 := (x.extractLsb' 23 8).isLt
  have hmbound : (x.extractLsb' 0 23).toNat < 2 ^ 23 := (x.extractLsb' 0 23).isLt
  simp only [cvtF32F64, if_neg he']
  generalize (x.extractLsb' 23 8).toNat = e at *
  generalize (x.extractLsb' 0 23).toNat = m at *
  split
  case isTrue hzero =>
    rw [hzero, Nat.zero_mul, Nat.zero_add, units32_subnormal hmbound]
    split
    case isTrue hm =>
      rw [hm]
      exact encodes_pack64_zero _ _
    case isFalse hm => exact encodes_pack64_normalMag hm (by omega) _ (by decide) (by decide)
  case isFalse hnormal =>
    have hone : 1 ≤ e := Nat.one_le_iff_ne_zero.2 hnormal
    have hscale : 1075 + e - 150 = e - 1 + 925 + 1 := by omega
    rw [hscale, units32_normal hone hmbound, Nat.mul_assoc, ← Nat.pow_add]
    exact encodes_pack64_normalMag (by omega) (by omega) _ (by omega) (by omega)

end

/-- Settles O33: a NaN and an infinity are built field by field, and every other result packs the sign with a magnitude
whose value is the exact one. -/
theorem conversionsToBinary64AreExact : Obligations.ConversionsToBinary64AreExact :=
  ⟨fun _ => ⟨cvtF32F64_nan, cvtF32F64_infinity, encodes_cvtF32F64⟩, fun _ => encodes_intToF64⟩

/-! ### The rule that the commands share -/

section
variable {s : State} {sp : Space} {n : Nat} {i : Instr} {f : List Byte → State}
  (hi : perform i s = (s.operand sp n).map f)
include hi

/-- R455 to R457, R203: a command that makes its results from its `n` operand bytes succeeds when they are in bounds. -/
theorem numeric_succeeds (h : s.off.toNat + n ≤ s.limitOf sp) :
    Succeeds i s (f ((List.range n).map (s.operandByte sp))) :=
  succeeds_of_perform_ok (hi.trans (by rw [State.operand_ok h]; rfl))

theorem numeric_raises (h : s.limitOf sp < s.off.toNat + n) : Raises i s .bufferTooShort :=
  raises_of_perform_error (hi.trans (by rw [State.operand_error h]; rfl))

end

section
variable (s : State) (sp : Space)

theorem perform_decf32 :
    perform (.decf32 sp) s = (s.operand sp 4).map fun b => s.withResult (cvtF32F64 (BitVec.ofNat 32 (be b))) 4 := by
  rw [perform, performDecf32]
  cases s.operand sp 4 <;> rfl

theorem perform_decfix :
    perform (.decfix sp) s = (s.operand sp 2).map fun b => s.withResult (s.fixval (be b)) 2 := by
  rw [perform, performDecfix]
  cases s.operand sp 2 <;> rfl

theorem perform_decph (f : PhasorFormat) (p : PhasorCoords) :
    perform (.decph sp f p) s = (s.operand sp (phasorLen f)).map fun b =>
      s.withResults (phasorValues s f p b).1 (phasorValues s f p b).2 (BitVec.ofNat 32 (phasorLen f)) := by
  rw [perform, performDecph]
  cases s.operand sp (phasorLen f) <;> rfl

/-! ### The values of the fields -/

theorem State.fixval_be_two (a b : Byte) :
    s.fixval (be [a, b]) = f64mul (intToF64 (a ++ b).toInt) (f64mul (intToF64 s.scaleVal.toNat) s.scalePb) := by
  rw [State.fixval, toSigned16, ofNat_be_two, State.factor]

theorem State.angval_be_two (a b : Byte) : s.angval (be [a, b]) = f64mul (intToF64 (a ++ b).toInt) s.angleSc := by
  rw [State.angval, toSigned16, ofNat_be_two]

variable (b : Nat → Byte)

theorem phasorValues_fixed_rect :
    phasorValues s .fixed .rect ((List.range 4).map b) =
      (f64mul (intToF64 (b 0 ++ b 1).toInt) (f64mul (intToF64 s.scaleVal.toNat) s.scalePb),
        f64mul (intToF64 (b 2 ++ b 3).toInt) (f64mul (intToF64 s.scaleVal.toNat) s.scalePb)) := by
  rw [← s.fixval_be_two, ← s.fixval_be_two]
  rfl

theorem phasorValues_fixed_polar :
    phasorValues s .fixed .polar ((List.range 4).map b) =
      (f64mul (intToF64 (b 0 ++ b 1).toInt) (f64mul (intToF64 s.scaleVal.toNat) s.scalePb),
        f64mul (intToF64 (b 2 ++ b 3).toInt) s.angleSc) := by
  rw [← s.fixval_be_two, ← s.angval_be_two]
  rfl

/-- R457: the coordinates play no part in the float form. -/
theorem phasorValues_float (p : PhasorCoords) :
    phasorValues s .float p ((List.range 8).map b) =
      (cvtF32F64 (b 0 ++ b 1 ++ b 2 ++ b 3), cvtF32F64 (b 4 ++ b 5 ++ b 6 ++ b 7)) := by
  rw [← ofNat_be_four, ← ofNat_be_four]
  rfl

end

/-! ### The commands -/

/-- Settles O30: DECF32 is the shared rule of four bytes, widened. -/
theorem decf32FollowsItsRule : Obligations.Decf32FollowsItsRule := by
  refine ⟨opcodeWords_of_forall_options (by decide) (by decide),
    fun s sp => ⟨fun h => ?_, numeric_raises (perform_decf32 s sp)⟩⟩
  rw [← ofNat_be_four]
  exact numeric_succeeds (perform_decf32 s sp) h

/-- Settles O31: DECFIX is the shared rule of two bytes, scaled. -/
theorem decfixFollowsItsRule : Obligations.DecfixFollowsItsRule := by
  refine ⟨opcodeWords_of_forall_options (by decide) (by decide),
    fun s sp => ⟨fun h => ?_, numeric_raises (perform_decfix s sp)⟩⟩
  rw [← s.fixval_be_two]
  exact numeric_succeeds (perform_decfix s sp) h

/-- Settles O32: DECPH is the shared rule of four or of eight bytes, and its form decides the two values. -/
theorem decphFollowsItsRule : Obligations.DecphFollowsItsRule := by
  refine ⟨opcodeWords_of_forall_options (by decide) (by decide), fun s sp p b factor hb hfactor => ?_⟩
  subst hb hfactor
  refine ⟨fun h => ⟨?rect, ?polar⟩, fun h => ?float, numeric_raises (perform_decph s sp .fixed p),
    numeric_raises (perform_decph s sp .float p)⟩
  case rect =>
    have := numeric_succeeds (perform_decph s sp .fixed .rect) h
    rwa [phasorLen, phasorValues_fixed_rect] at this
  case polar =>
    have := numeric_succeeds (perform_decph s sp .fixed .polar) h
    rwa [phasorLen, phasorValues_fixed_polar] at this
  case float =>
    have := numeric_succeeds (perform_decph s sp .float p) h
    rwa [phasorLen, phasorValues_float] at this

end Sys2Proof.Machine
end

section
/-! The frame synchronizer (46_frame_synchronizer.md): its step in each state (R462, R465, R466), the bound that lets
FEED's loop reach its exit (R471), and the commands FEED, FRAMEACK and SYNCRESET (R472 to R474). -/

namespace Sys2Proof.Machine

/-! ### Two bytes of a list -/

theorem slice_two {bs : List Byte} {i : Nat} (h : i + 2 ≤ bs.length) :
    slice bs i 2 = [bs.getD i 0, bs.getD (i + 1) 0] := by
  rw [slice, List.drop_eq_getElem_cons (by omega), List.drop_eq_getElem_cons (by omega),
    List.getD_eq_getElem _ _ (by omega), List.getD_eq_getElem _ _ (by omega)]
  rfl

/-- R440: `frameLength` of a list that holds bytes 2 and 3. -/
theorem declaredLen_eq_getD {bs : List Byte} (h : 4 ≤ bs.length) :
    declaredLen bs = (bs.getD 2 0).toNat * 256 + (bs.getD 3 0).toNat := by
  rw [declaredLen, slice_two h, be_two]

/-- R438: a frame image of `n` bytes is its body and the two bytes of its trailer. -/
theorem take_append_trailer_pair {bs : List Byte} {n : Nat} (hn : bs.length = n) (h : 2 ≤ n) :
    bs.take (n - 2) ++ [bs.getD (n - 2) 0, bs.getD (n - 1) 0] = bs := by
  have hdrop : bs.drop (n - 2) = slice bs (n - 2) 2 := (List.take_of_length_le (by simp; omega)).symm
  have hlast : n - 1 = n - 2 + 1 := by omega
  rw [hlast, ← slice_two (by omega), ← hdrop, List.take_append_drop]

/-! ### The step in each state -/

@[simp] theorem SyncRun.push_acc (r : SyncRun) (b : Byte) : (r.push b).sync.acc = r.sync.acc ++ [b] := rfl

@[simp] theorem SyncRun.push_replay (r : SyncRun) (b : Byte) : (r.push b).sync.replay = r.sync.replay := rfl

section
variable {e : SyncEnv} {b : Byte} {r : SyncRun}

theorem syncStep_seeking (h : r.sync.state = .seeking) :
    syncStep e b r =
      if b = syncByte then { r with sync := { r.sync with acc := [b], state := .hdrBuf } }
      else { r with sync := { r.sync with skipCnt := r.sync.skipCnt + 1 } } := by
  rw [syncStep, h]

theorem syncStep_hdrBuf (h : r.sync.state = .hdrBuf) :
    syncStep e b r = if (r.push b).sync.acc.length = 14 then checkHeader (r.push b) else r.push b := by
  rw [syncStep, h, SyncRun.push, List.length_append]
  rfl

theorem syncStep_bodyBuf (h : r.sync.state = .bodyBuf) :
    syncStep e b r =
      if (r.push b).sync.acc.length = r.sync.frameLen.toNat then completeFrame e (r.push b) else r.push b := by
  rw [syncStep, h, SyncRun.push, List.length_append]
  rfl

/-- Settles O37: the two branches of SEEKING. -/
theorem seekingTakesOnlyTheSyncByte : Obligations.SeekingTakesOnlyTheSyncByte := by
  intro e b r hs
  rw [syncStep_seeking hs]
  exact ⟨fun hb => by subst hb; exact if_pos rfl, fun hb => if_neg hb⟩

end

/-! ### The ends of a candidate -/

section
variable {e : SyncEnv} {r : SyncRun}

/-- R468, with `pos0()` from the length of the candidate and `IRQ_PEND[1]` as a mask. -/
theorem resync_eq (c : CmdError) {n : Nat} (hn : r.sync.acc.length = n) :
    resync c r = {
      sync := { r.sync with
        resyncCnt := r.sync.resyncCnt + 1
        diagCause := c.code
        diagPos := r.sync.streamPos - BitVec.ofNat 32 n - BitVec.ofNat 32 r.sync.replay.length
        replay := r.sync.acc.drop 1 ++ r.sync.replay
        acc := []
        state := .seeking }
      pend := r.pend ||| 2 } := by
  rw [resync, pos0, hn, List.drop_one]
  rfl

/-- R467, with `pos0()` from the length of the candidate and `IRQ_PEND[0]` as a mask. -/
theorem dispatchFrame_eq {n : Nat} (hn : r.sync.acc.length = n) :
    dispatchFrame r = {
      sync := { r.sync with
        state := .dispatch
        frameCnt := r.sync.frameCnt + 1
        cmdfCnt := if r.sync.frameType = 4 then r.sync.cmdfCnt + 1 else r.sync.cmdfCnt
        framePos := r.sync.streamPos - BitVec.ofNat 32 n - BitVec.ofNat 32 r.sync.replay.length }
      pend := r.pend ||| 1 } := by
  rw [dispatchFrame, pos0, hn]
  rfl

theorem checkHeader_of_rejected {c : CmdError}
    (h : hdrCheck (r.sync.acc.getD 1 0) (declaredLen r.sync.acc) = some c) : checkHeader r = resync c r := by
  rw [checkHeader, h]

theorem checkHeader_of_accepted (h : hdrCheck (r.sync.acc.getD 1 0) (declaredLen r.sync.acc) = none) :
    checkHeader r =
      { r with
        sync := { r.sync with
          frameType := typeCode (r.sync.acc.getD 1 0)
          frameLen := BitVec.ofNat 16 (declaredLen r.sync.acc)
          state := .bodyBuf } } := by
  rw [checkHeader, h]

theorem completeFrame_of_accepted (h : frameAccepted e r.sync = true) : completeFrame e r = dispatchFrame r := if_pos h

theorem completeFrame_of_refused (h : frameAccepted e r.sync = false) :
    completeFrame e r =
      resync .checksumMismatch { r with sync := { r.sync with crcErrCnt := r.sync.crcErrCnt + 1 } } :=
  if_neg (Bool.eq_false_iff.1 h)

theorem crc_algOfBit (cfg : Crc16Cfg) (bit : Bool) (bs : List Byte) :
    crc cfg (algOfBit bit) bs = if bit then crc16 cfg bs else crcCcitt bs := by
  cases bit <;> rfl

/-- R466, R438: a candidate of the declared length is refused when its type is checked and its trailer, read byte by
byte, is not the checksum of what comes before it. -/
theorem frameAccepted_eq_false_iff {y : Sync} {n : Nat} (hn : y.acc.length = n) (hlen : y.frameLen.toNat = n)
    (h : 2 ≤ n) :
    frameAccepted e y = false ↔
      e.crcVen.getLsbD y.frameType.toNat = true ∧
      (if e.crcAlg.getLsbD y.frameType.toNat then crc16 e.crc16 (y.acc.take (n - 2))
        else crcCcitt (y.acc.take (n - 2))) ≠ (y.acc.getD (n - 2) 0 ++ y.acc.getD (n - 1) 0 : BitVec 16) := by
  have hframe : y.acc.take y.frameLen.toNat = y.acc.take (n - 2) ++ [y.acc.getD (n - 2) 0, y.acc.getD (n - 1) 0] := by
    rw [take_append_trailer_pair hn h, hlen, List.take_of_length_le hn.le]
  simp only [frameAccepted, hframe, bodyCrc_append_pair, trailer_append_pair, crc_algOfBit, Bool.or_eq_false_iff,
    Bool.not_eq_false', beq_eq_false_iff_ne]

end

/-! ### The verdict on a header -/

/-- R443: the cause of a refused header, type and version before length. -/
theorem exists_hdrCheck_eq_some {b1 : Byte} {fl : Nat}
    (h : 6 ≤ b1.toNat / 16 % 8 ∨ 3 < b1.toNat % 16 ∨ fl < 16) :
    ∃ c, hdrCheck b1 fl = some c ∧ c.code = if 6 ≤ b1.toNat / 16 % 8 ∨ 3 < b1.toNat % 16 then 3 else 6 := by
  by_cases hinvalid : 6 ≤ b1.toNat / 16 % 8 ∨ 3 < b1.toNat % 16
  · exact ⟨_, hdrCheck_of_invalid hinvalid, (if_pos hinvalid).symm⟩
  · have hshort : fl < 16 := by omega
    exact ⟨_, (hdrCheck_of_valid (by omega) (by omega)).trans (if_pos hshort), (if_neg hinvalid).symm⟩

/-- Settles O38: the 14th byte has the header checked, and each verdict of the check (R443) is one clause. -/
theorem headerBytesFollowTheRule : Obligations.HeaderBytesFollowTheRule := by
  intro e b r acc' ftype ver fl hs hacc hftype hver hfl
  have hpush : (r.push b).sync.acc = acc' := hacc.symm
  rw [syncStep_hdrBuf hs, hpush]
  refine ⟨fun h => ?more, fun h => ?checked⟩
  case more => rw [if_neg h, hacc]; rfl
  case checked =>
    have hdeclared : declaredLen acc' = fl := by rw [hfl, declaredLen_eq_getD (by omega)]
    have htype : typeCode (acc'.getD 1 0) = BitVec.ofNat 3 ftype := by
      rw [hftype, ← typeCode_toNat, BitVec.ofNat_toNat, BitVec.setWidth_eq]
    rw [if_pos h]
    subst hftype hver
    refine ⟨fun hbad => ?rejected, fun htypeOk hverOk hlong => ?accepted⟩
    case rejected =>
      obtain ⟨c, hc, hcode⟩ := exists_hdrCheck_eq_some hbad
      rw [checkHeader_of_rejected (by rwa [hpush, hdeclared]), resync_eq c (hpush ▸ h), hcode, hpush]
      rfl
    case accepted =>
      have hc := (hdrCheck_of_valid htypeOk hverOk).trans (if_neg (Nat.not_lt.2 hlong))
      rw [checkHeader_of_accepted (by rwa [hpush, hdeclared]), hpush, htype, hdeclared, hacc]
      rfl

/-- Settles O39: the byte that completes `FRAME_LEN` has the frame checked, and `bad` is that check's refusal. -/
theorem bodyBytesFollowTheRule : Obligations.BodyBytesFollowTheRule := by
  intro e b r acc' n bad hs hacc hn h2 hbad
  have hpush : (r.push b).sync.acc = acc' := hacc.symm
  rw [syncStep_bodyBuf hs, hpush, ← hn]
  refine ⟨fun h => ?more, fun h => ?completed⟩
  case more => rw [if_neg h, hacc]; rfl
  case completed =>
    have hlen : (r.push b).sync.acc.length = n := hpush ▸ h
    have hrefused : frameAccepted e (r.push b).sync = false ↔ bad := by
      rw [frameAccepted_eq_false_iff hlen hn.symm h2, hpush, hbad]
      rfl
    rw [if_pos h]
    refine ⟨fun hb => ?refused, fun hb => ?dispatched⟩
    case refused =>
      rw [completeFrame_of_refused (hrefused.2 hb), resync_eq (n := n) _ (by exact hlen), hacc]
      rfl
    case dispatched =>
      rw [completeFrame_of_accepted (eq_true_of_ne_false (mt hrefused.1 hb)), dispatchFrame_eq hlen, hacc]
      rfl

/-! ### FEED's loop reaches its exit -/

/-- The bytes FEED's loop holds: the candidate, `REPLAY` and the rest of the chunk. -/
def FeedRun.held (f : FeedRun) : Nat := f.run.sync.acc.length + f.run.sync.replay.length + f.input.length

/-- The bytes FEED's loop can still take. -/
def FeedRun.queued (f : FeedRun) : Nat := f.run.sync.replay.length + f.input.length

theorem FeedRun.queued_le_held (f : FeedRun) : f.queued ≤ f.held := by
  unfold queued held
  omega

/-- A bound on the turns FEED's loop can take from `f`: a turn takes a queued byte, and one that queues bytes again is a
resync, which drops a held one for good. -/
def FeedRun.turnBound (f : FeedRun) : Nat := f.held * (f.held + 1) + f.queued

theorem FeedRun.turnBound_le_feedFuel (f : FeedRun) : f.turnBound ≤ feedFuel f := by
  have := f.queued_le_held
  have hfuel : feedFuel f = (f.held + 1) * (f.held + 1) := rfl
  rw [hfuel, FeedRun.turnBound]
  nlinarith

theorem FeedRun.turnBound_lt_of_queued_lt {f g : FeedRun} (hheld : g.held ≤ f.held) (hqueued : g.queued < f.queued) :
    g.turnBound < f.turnBound :=
  Nat.add_lt_add_of_le_of_lt (Nat.mul_le_mul hheld (Nat.succ_le_succ hheld)) hqueued

theorem FeedRun.turnBound_lt_of_held_lt {f g : FeedRun} (h : g.held < f.held) : g.turnBound < f.turnBound := by
  have := g.queued_le_held
  unfold FeedRun.turnBound
  nlinarith

section
variable {e : SyncEnv} {b : Byte} {r : SyncRun}

/-- R468, R469: `t` holds the bytes of `r` as they are, or the candidate's first one is dropped and the rest of it is in
front of `REPLAY`. -/
def SyncRun.KeepsOrRequeues (r t : SyncRun) : Prop :=
  (t.sync.acc = r.sync.acc ∧ t.sync.replay = r.sync.replay) ∨
  (t.sync.acc = [] ∧ t.sync.replay = r.sync.acc.tail ++ r.sync.replay)

theorem checkHeader_keepsOrRequeues (r : SyncRun) : r.KeepsOrRequeues (checkHeader r) := by
  cases h : hdrCheck (r.sync.acc.getD 1 0) (declaredLen r.sync.acc) with
  | none =>
    rw [checkHeader_of_accepted h]
    exact .inl ⟨rfl, rfl⟩
  | some c =>
    rw [checkHeader_of_rejected h]
    exact .inr ⟨rfl, rfl⟩

theorem completeFrame_keepsOrRequeues (e : SyncEnv) (r : SyncRun) : r.KeepsOrRequeues (completeFrame e r) := by
  cases h : frameAccepted e r.sync with
  | true =>
    rw [completeFrame_of_accepted h]
    exact .inl ⟨rfl, rfl⟩
  | false =>
    rw [completeFrame_of_refused h]
    exact .inr ⟨rfl, rfl⟩

theorem syncStep_keepsOrRequeues (h : r.sync.state = .hdrBuf ∨ r.sync.state = .bodyBuf) :
    (r.push b).KeepsOrRequeues (syncStep e b r) := by
  obtain h | h := h
  · rw [syncStep_hdrBuf h]
    split
    · exact checkHeader_keepsOrRequeues _
    · exact .inl ⟨rfl, rfl⟩
  · rw [syncStep_bodyBuf h]
    split
    · exact completeFrame_keepsOrRequeues e _
    · exact .inl ⟨rfl, rfl⟩

theorem SyncRun.KeepsOrRequeues.lengths {t : SyncRun} (h : (r.push b).KeepsOrRequeues t) :
    (t.sync.replay = r.sync.replay ∧ t.sync.acc.length ≤ r.sync.acc.length + 1) ∨
    (t.sync.acc = [] ∧ t.sync.replay.length = r.sync.acc.length + r.sync.replay.length) := by
  obtain ⟨hacc, hreplay⟩ | ⟨hacc, hreplay⟩ := h
  · exact .inl (by simp [hacc, hreplay])
  · exact .inr (by simp [hacc, hreplay])

/-- R461: a step leaves `REPLAY` alone and lengthens the candidate by at most its byte, or it is a resync, after which
one byte fewer is held. -/
theorem syncStep_lengths (h : r.sync.state ≠ .dispatch) :
    ((syncStep e b r).sync.replay = r.sync.replay ∧ (syncStep e b r).sync.acc.length ≤ r.sync.acc.length + 1) ∨
    ((syncStep e b r).sync.acc = [] ∧
      (syncStep e b r).sync.replay.length = r.sync.acc.length + r.sync.replay.length) := by
  cases hs : r.sync.state with
  | seeking =>
    rw [syncStep_seeking hs]
    split <;> exact .inl (by simp)
  | hdrBuf => exact (syncStep_keepsOrRequeues (.inl hs)).lengths
  | bodyBuf => exact (syncStep_keepsOrRequeues (.inr hs)).lengths
  | dispatch => exact absurd hs h

end

/-- A turn that hands `r` to the step takes one queued byte of `f` and leaves its candidate to the step. -/
theorem FeedRun.turnBound_lt_of_syncStep {e : SyncEnv} {b : Byte} {r : SyncRun} {f g : FeedRun}
    (hrun : g.run = syncStep e b r) (hacc : r.sync.acc = f.run.sync.acc)
    (hqueued : r.sync.replay.length + g.input.length + 1 = f.queued) (hs : r.sync.state ≠ .dispatch) :
    g.turnBound < f.turnBound := by
  have hstep := syncStep_lengths (e := e) (b := b) hs
  rw [← hrun, hacc] at hstep
  unfold queued at hqueued
  obtain ⟨hreplay, hlen⟩ | ⟨hempty, hlen⟩ := hstep
  · have := congrArg List.length hreplay
    exact turnBound_lt_of_queued_lt (by unfold held; omega) (by unfold queued; omega)
  · have := congrArg List.length hempty
    simp only [List.length_nil] at this
    exact turnBound_lt_of_held_lt (by unfold held; omega)

section
variable {e : SyncEnv} {f g k : FeedRun}

theorem turnBound_lt_of_feedTurn (h : feedTurn e f = some g) : g.turnBound < f.turnBound := by
  obtain ⟨-, heq⟩ | ⟨hs, b, rest, hr, heq⟩ | ⟨hs, hr, b, rest, hi, heq⟩ | ⟨-, -, -, heq⟩ := feedTurn_cases e f <;>
    cases heq.symm.trans h
  case inr.inl => exact FeedRun.turnBound_lt_of_syncStep rfl rfl (by simp [FeedRun.queued, hr, Nat.add_right_comm]) hs
  case inr.inr.inl => exact FeedRun.turnBound_lt_of_syncStep rfl rfl (by simp [FeedRun.queued, hr, hi]) hs

theorem feedReaches_of_exit (h : feedTurn e f = none) : FeedReaches e f f := by
  obtain ⟨hs, -⟩ | ⟨-, b, rest, -, heq⟩ | ⟨-, -, b, rest, -, heq⟩ | ⟨hs, hr, hi, -⟩ := feedTurn_cases e f
  case inl => exact .dispatched f hs
  case inr.inr.inr => exact .drained f hs hr hi
  all_goals cases heq.symm.trans h

theorem feedReaches_of_turn (h : feedTurn e f = some g) (next : FeedReaches e g k) : FeedReaches e f k := by
  obtain ⟨-, heq⟩ | ⟨hs, b, rest, hr, heq⟩ | ⟨hs, hr, b, rest, hi, heq⟩ | ⟨-, -, -, heq⟩ := feedTurn_cases e f <;>
    cases heq.symm.trans h
  case inr.inl => exact .fromReplay f k b rest hs hr next
  case inr.inr.inl => exact .fromBuf f k b rest hs hr hi next

/-- R471: with as much fuel as there can be turns, the loop stops at an exit of R472. -/
theorem feedReaches_feedLoop {fuel : Nat} (h : f.turnBound ≤ fuel) : FeedReaches e f (feedLoop e fuel f) := by
  induction fuel generalizing f with
  | zero =>
    cases hturn : feedTurn e f with
    | none => exact feedReaches_of_exit hturn
    | some g => exact absurd (turnBound_lt_of_feedTurn hturn) (by omega)
  | succ fuel ih =>
    cases hturn : feedTurn e f with
    | none =>
      rw [feedLoop_exit hturn]
      exact feedReaches_of_exit hturn
    | some g =>
      have := turnBound_lt_of_feedTurn hturn
      rw [feedLoop_turn hturn]
      exact feedReaches_of_turn hturn (ih (by omega))

end

theorem feedReaches_feedEnd (s : State) (input : List Byte) :
    FeedReaches s.syncEnv (s.feedStart input) (s.feedEnd input) :=
  feedReaches_feedLoop (FeedRun.turnBound_le_feedFuel _)

/-! ### The commands -/

section
variable {s : State}

theorem performFeed_of_le (h : s.off.toNat + s.len.toNat ≤ s.limit.val) :
    performFeed s = .ok (s.withFeed (s.feedEnd (s.memRead .buf s.off.toNat s.len.toNat))) := by
  rw [performFeed, State.operand_ok h]

theorem performFeed_of_lt (h : s.limit.val < s.off.toNat + s.len.toNat) : performFeed s = .error .bufferTooShort := by
  rw [performFeed, State.operand_error h]

theorem performFrameack_of_dispatch (h : s.sync.state = .dispatch) :
    performFrameack s = .ok (s.withSync { s.sync with acc := [], state := .seeking }) := by
  rw [performFrameack, h]

theorem performFrameack_of_ne_dispatch (h : s.sync.state ≠ .dispatch) : performFrameack s = .error .syncStateError := by
  unfold performFrameack
  split
  · contradiction
  · rfl

end

/-- Settles O40: the fuel of FEED's loop covers every turn it can take, so the command ends where the loop of R472 does. -/
theorem feedRunsItsLoopToTheEnd : Obligations.FeedRunsItsLoopToTheEnd :=
  ⟨opcodeWords_of_forall_options (by decide) (by decide), fun s =>
    ⟨fun h => ⟨_, feedReaches_feedEnd s _, succeeds_of_perform_ok (performFeed_of_le h)⟩,
      fun h => raises_of_perform_error (performFeed_of_lt h)⟩⟩

/-- Settles O45: the two ends of R473. -/
theorem frameackReleasesTheFrame : Obligations.FrameackReleasesTheFrame :=
  ⟨opcodeWords_of_forall_options (by decide) (by decide), fun _ =>
    ⟨fun h => succeeds_of_perform_ok (performFrameack_of_dispatch h),
      fun h => raises_of_perform_error (performFrameack_of_ne_dispatch h)⟩⟩

/-- Settles O46: R474 writes the reset value of the whole synchronizer, in every state. -/
theorem syncresetClearsTheSynchronizer : Obligations.SyncresetClearsTheSynchronizer :=
  ⟨opcodeWords_of_forall_options (by decide) (by decide), fun _ => succeeds_of_perform_ok (i := .syncreset) rfl⟩

end Sys2Proof.Machine
end

section
/-! The exceptions (60_exceptions.md): the three causes of IllegalCommand (R607), and the status bits and the interrupt
output as views of other state (R106, R610). -/

namespace Sys2Proof.Machine

/-! ### The words that are commands -/

/-- R303: the opcodes of the map's rows. -/
def mapOps : List (BitVec 8) := opcodeMap.map (·.pattern.extractLsb' 0 8)

/-- R303: every row fixes `OP`. -/
theorem opcodeMap_op_mask : ∀ r ∈ opcodeMap, r.mask.extractLsb' 0 8 = BitVec.allOnes 8 := by decide

/-- R304: what the decoder answers is what a row that the word selects builds. -/
theorem exists_row_of_decode_ok {w : Word} {i : Instr} (h : decode w = .ok i) :
    ∃ r ∈ opcodeMap, w &&& r.mask = r.pattern ∧ i = r.build (splitWord w) := by
  unfold decode at h
  split at h
  case h_1 r hr =>
    cases h
    exact ⟨r, List.mem_of_find?_eq_some hr, by simpa [OpcodeRow.selects] using List.find?_some hr, rfl⟩
  case h_2 => cases h

theorem op_mem_mapOps_of_decode_ok {w : Word} {i : Instr} (h : decode w = .ok i) : w.extractLsb' 0 8 ∈ mapOps := by
  obtain ⟨r, hmem, hsel, -⟩ := exists_row_of_decode_ok h
  refine List.mem_map.mpr ⟨r, hmem, ?_⟩
  rw [← hsel, BitVec.extractLsb'_and, opcodeMap_op_mask r hmem, BitVec.and_allOnes]

/-- R303: the "uses" column lists the opcodes of the map's rows and no other. -/
theorem isSome_opUse_iff : ∀ op : BitVec 8, (opUse op).isSome ↔ op ∈ mapOps := by decide +kernel

/-- R300, R607: the three conditions on a command word. -/
theorem wellFormed_splitWord_iff (w : Word) :
    (splitWord w).wellFormed = true ↔
      (w.extractLsb' 12 20 = 0 ∧ w.extractLsb' 0 8 ∈ mapOps) ∧ (splitWord w).unusedClear = true := by
  rw [← isSome_opUse_iff]
  simp [CmdFields.wellFormed, CmdFields.rsvClear, CmdFields.opListed, splitWord]

/-- R301: with a row's opcode and a clear `RSV`, sixteen words of each opcode are left, and the unused fields decide. -/
theorem isOk_decode_options : ∀ op ∈ mapOps, ∀ o : BitVec 4,
    (decode (0#20 ++ o ++ op)).isOk = (splitWord (0#20 ++ o ++ op)).unusedClear := by decide +kernel

theorem isOk_decode_eq_unusedClear {w : Word} (hrsv : w.extractLsb' 12 20 = 0) (hop : w.extractLsb' 0 8 ∈ mapOps) :
    (decode w).isOk = (splitWord w).unusedClear := by
  have hword : 0#20 ++ w.extractLsb' 8 4 ++ w.extractLsb' 0 8 = w := by
    have := rsv_append_options_append_op w
    rwa [hrsv] at this
  have := isOk_decode_options _ hop (w.extractLsb' 8 4)
  rwa [hword] at this

/-- R304, R607: the decoder, which is written from the match and mask columns, accepts the words that the prose accepts. -/
theorem wellFormed_splitWord_iff_exists_decode (w : Word) :
    (splitWord w).wellFormed = true ↔ ∃ i, decode w = .ok i := by
  rw [wellFormed_splitWord_iff]
  constructor
  · rintro ⟨⟨hrsv, hop⟩, hclear⟩
    rw [← isOk_decode_eq_unusedClear hrsv hop] at hclear
    cases h : decode w with
    | ok i => exact ⟨i, rfl⟩
    | error c =>
      rw [h] at hclear
      cases hclear
  · rintro ⟨i, h⟩
    have hrsv := rsv_eq_zero_of_decode_ok h
    have hop := op_mem_mapOps_of_decode_ok h
    refine ⟨⟨hrsv, hop⟩, ?_⟩
    rw [← isOk_decode_eq_unusedClear hrsv hop, h]
    rfl

/-- Settles O3: a word that meets the three conditions of R607 decodes, and what does not decode is IllegalCommand. -/
theorem illegalWordsReportAndDoNothing : Obligations.IllegalWordsReportAndDoNothing := by
  refine fun w => ⟨(wellFormed_splitWord_iff_exists_decode w).mp, fun hill => ?_⟩
  cases h : decode w with
  | ok i => exact absurd ((wellFormed_splitWord_iff_exists_decode w).mpr ⟨i, h⟩) (by simp [hill])
  | error c => exact wordIsIllegal_of_decode_error h

/-! ### `STATUS` and the interrupt output -/

section
variable (s : State)

/-- R106: `STATUS` is its four bits, one after the other. -/
theorem State.status_eq_concat :
    s.status = ((((0 : BitVec 28).concat s.irq).concat s.replayPend).concat s.frameReady).concat s.err := rfl

theorem State.status_getLsbD_zero : s.status.getLsbD 0 = s.err := by
  rw [s.status_eq_concat, BitVec.getLsbD_concat_zero]

theorem State.status_getLsbD_one : s.status.getLsbD 1 = s.frameReady := by
  rw [s.status_eq_concat, BitVec.getLsbD_concat_succ, BitVec.getLsbD_concat_zero]

theorem State.status_getLsbD_two : s.status.getLsbD 2 = s.replayPend := by
  rw [s.status_eq_concat, BitVec.getLsbD_concat_succ, BitVec.getLsbD_concat_succ, BitVec.getLsbD_concat_zero]

theorem State.status_getLsbD_three : s.status.getLsbD 3 = s.irq := by
  rw [s.status_eq_concat, BitVec.getLsbD_concat_succ, BitVec.getLsbD_concat_succ, BitVec.getLsbD_concat_succ,
    BitVec.getLsbD_concat_zero]

theorem State.status_toNat_lt : s.status.toNat < 16 := by
  have hirq := s.irq.toNat_lt
  have hreplay := s.replayPend.toNat_lt
  have hframe := s.frameReady.toNat_lt
  have herr := s.err.toNat_lt
  rw [s.status_eq_concat]
  simp only [BitVec.toNat_concat, BitVec.ofNat_eq_ofNat, BitVec.toNat_ofNat]
  omega

theorem State.frameReady_eq_true_iff : s.frameReady = true ↔ s.sync.state = .dispatch := decide_eq_true_iff

theorem State.replayPend_eq_true_iff : s.replayPend = true ↔ s.sync.replay ≠ [] := by simp [State.replayPend]

end

theorem bne_zero_eq_or_bits : ∀ x : BitVec 3, (x != 0) = (x.getLsbD 0 || x.getLsbD 1 || x.getLsbD 2) := by decide

theorem State.irq_eq_or_bits (s : State) :
    s.irq = (s.irqEn.getLsbD 0 && s.irqPend.getLsbD 0 || s.irqEn.getLsbD 1 && s.irqPend.getLsbD 1
      || s.irqEn.getLsbD 2 && s.irqPend.getLsbD 2) := by
  rw [State.irq, bne_zero_eq_or_bits, BitVec.getLsbD_and, BitVec.getLsbD_and, BitVec.getLsbD_and]

/-- Settles O55: each bit of `STATUS` is the view that R106 puts there, and each view reads its state. -/
theorem statusAndInterruptAreLiveViews : Obligations.StatusAndInterruptAreLiveViews := fun s =>
  ⟨⟨s.status_getLsbD_zero, by rw [s.status_getLsbD_one, s.frameReady_eq_true_iff],
    by rw [s.status_getLsbD_two, s.replayPend_eq_true_iff], s.status_getLsbD_three, s.status_toNat_lt⟩, s.irq_eq_or_bits⟩

end Sys2Proof.Machine
end

section
/-! The encoder and the decoder (30_encoding.md): each is the other's inverse (R300, R303, R304), and the rows of the
opcode map are disjoint. -/

namespace Sys2Proof.Machine

/-- R303, R300: the word of an instruction selects its row, whose modifier fields are the instruction's. -/
theorem decode_encode (i : Instr) : decode (encode i) = .ok i := by
  cases i with
  | nop | wru8 | wru16 | wru24 | wru32 | wri16 | wrf32 | wrf64 | setdlen | feed | frameack | syncreset => rfl
  | rdu8 sp | rdu16 sp | rdu24 sp | rdu32 sp | rdi16 sp | rdf32 sp | rdf64 sp | crcccitt sp | crc16 sp | chkccitt sp
  | chk16 sp | hdrparse sp | decf32 sp | decfix sp => cases sp <;> rfl
  | decph sp f p => cases sp <;> cases f <;> cases p <;> rfl

/-- Of the sixteen words of each opcode whose `RSV` is 0, those that decode are the words of what they decode to. -/
theorem encode_decode_options : ∀ op ∈ mapOps, ∀ o : BitVec 4,
    ∀ i ∈ (decode (0#20 ++ o ++ op)).toOption, encode i = 0#20 ++ o ++ op := by decide +kernel

/-- R301, R304: no bit of a command word is outside its instruction's fields. -/
theorem encode_of_decode_ok {w : Word} {i : Instr} (h : decode w = .ok i) : encode i = w := by
  have hword : 0#20 ++ w.extractLsb' 8 4 ++ w.extractLsb' 0 8 = w := by
    have := rsv_append_options_append_op w
    rwa [rsv_eq_zero_of_decode_ok h] at this
  have hencode := encode_decode_options _ (op_mem_mapOps_of_decode_ok h) (w.extractLsb' 8 4) i
  rw [hword, h] at hencode
  exact hencode rfl

/-- Settles O1: the decoder reads back every instruction's word, and answers an instruction on no other word. -/
theorem decodeInvertsEncode : Obligations.DecodeInvertsEncode := fun _ i =>
  ⟨fun h => (encode_of_decode_ok h).symm, fun h => h ▸ decode_encode i⟩

/-- R303: any two rows differ in a bit that both of them fix. -/
theorem opcodeMap_pairwise_fixed_bits :
    opcodeMap.Pairwise fun r r' => r.pattern &&& r'.mask ≠ r'.pattern &&& r.mask := by decide

/-- R304: a word that selects two rows has, in the bits both fix, the value of each. -/
theorem OpcodeRow.fixed_bits_of_selects {r r' : OpcodeRow} {w : Word} (h : r.selects w = true)
    (h' : r'.selects w = true) : r.pattern &&& r'.mask = r'.pattern &&& r.mask := by
  simp only [OpcodeRow.selects, beq_iff_eq] at h h'
  rw [← h, ← h', BitVec.and_assoc, BitVec.and_assoc, BitVec.and_comm r.mask]

/-- Settles O2: a word cannot have both values of a bit that two rows fix differently. -/
theorem opcodeRowsAreDisjoint : Obligations.OpcodeRowsAreDisjoint :=
  opcodeMap_pairwise_fixed_bits.imp fun hne _ ⟨h, h'⟩ => hne (OpcodeRow.fixed_bits_of_selects h h')

/-- Settles O4: each word is the encoding of its command. -/
theorem sampleWordsDecode : Obligations.SampleWordsDecode :=
  ⟨decode_encode .nop, decode_encode (.rdu16 .acc), decode_encode .wrf64, decode_encode (.crc16 .buf),
    decode_encode (.chk16 .acc), decode_encode (.hdrparse .acc), decode_encode (.decph .acc .float .polar),
    decode_encode .frameack⟩

end Sys2Proof.Machine
end

section
/-! The step (40_command_control.md section 1, R12, R700), and what the host reads from and writes to the registers
(10_state.md). -/

namespace Sys2Proof.Machine

/-! ### The next event -/

/-- R12: a step performs the event at the front of the host's queue. -/
theorem step_cons (s : State) (ev : HostEvent) : step { s with host := ev :: s.host } = runEvent ev s := rfl

theorem apertureOffset_eq_none {cfg : Config} {addr : Nat}
    (h : addr < cfg.blockBase ∨ cfg.blockBase + 0x40000 ≤ addr) : apertureOffset cfg addr = none :=
  if_neg (by omega)

/-- Settles O7: with an empty queue there is nothing to perform, and an address outside the aperture has no offset. -/
theorem idleOrUnselectedBlockKeepsItsState : Obligations.IdleOrUnselectedBlockKeepsItsState := by
  refine ⟨fun s h => ?idle, fun s a h => ?unselected⟩
  case idle => rw [step, runNext, h]
  case unselected =>
    rw [step_cons, runEvent, apertureOffset_eq_none h]
    rfl

/-- Settles O57: the reset input is an event like another, and its meaning names the whole next state. -/
theorem hardwareResetRestoresResetState : Obligations.HardwareResetRestoresResetState := fun s =>
  step_cons s .hardwareReset

theorem step_hostWrites_cmd (s : State) (v : DWord) :
    step (s.hostWrites 0x004 .w32 v) = execute (v.extractLsb' 0 32) { s with resp := .written } := by
  rw [step_hostWrites s .w32 v (by decide)]
  rfl

theorem execute_of_decode_ok {w : Word} {i : Instr} (h : decode w = .ok i) (s : State) :
    execute w s = exec i { s with cmd := w } := by
  rw [execute, h]
  rfl

/-- Settles O5: the write runs `execute`, which decides by what the word decodes to. -/
theorem stepRunsTheDecodedCommand : Obligations.StepRunsTheDecodedCommand := by
  rintro s v w rfl
  have hstep := step_hostWrites_cmd s v
  refine ⟨hstep, fun i h => hstep.trans (execute_of_decode_ok h _), fun hill => ?_⟩
  cases h : decode (v.extractLsb' 0 32) with
  | ok i => exact absurd h (hill i)
  | error c => exact hstep.trans (wordIsIllegal_of_decode_error h _)

/-! ### Register reads -/

/-- R103 to R142: the offsets of the registers. -/
def registerOffsets : List Nat :=
  [0x000, 0x004, 0x008, 0x00C, 0x010, 0x014, 0x018, 0x01C, 0x020, 0x024, 0x028, 0x02C, 0x030, 0x034, 0x038, 0x040,
    0x044, 0x048, 0x04C, 0x050, 0x054, 0x058, 0x05C, 0x060, 0x064, 0x068, 0x06C, 0x070, 0x074, 0x078, 0x07C, 0x080,
    0x084, 0x088, 0x08C, 0x090, 0x094, 0x098, 0x09C, 0x0A0, 0x0A4, 0x0A8, 0x0AC, 0x0B0, 0x0B4, 0x0FC]

theorem registerOffsets_legal : ∀ off ∈ registerOffsets, off < 0x100 ∧ off % 4 = 0 := by decide

section
variable (s : State) {off : Nat}

/-- By the offsets `readLowReg` distinguishes; the last case is a reserved offset (R143). -/
theorem State.readLowReg_eq_zero (h : off ∉ registerOffsets) : s.readLowReg off = 0 := by
  unfold State.readLowReg
  split
  case h_32 => rfl
  all_goals exact absurd (by decide) h

/-- By the offsets `readHighReg` distinguishes; the last case is a reserved offset (R143). -/
theorem State.readHighReg_eq_zero (h : off ∉ registerOffsets) : s.readHighReg off = 0 := by
  unfold State.readHighReg
  split
  case h_16 => rfl
  all_goals exact absurd (by decide) h

theorem State.readReg_eq_zero (h : off ∉ registerOffsets) : s.readReg off = 0 := by
  unfold State.readReg
  split
  · exact s.readLowReg_eq_zero h
  · exact s.readHighReg_eq_zero h

end

/-- R121: `HDR_TYPE` as a number. -/
theorem HdrRegs.typeReg_eq_ofNat (h : HdrRegs) : h.typeReg = BitVec.ofNat 32 (h.b7.toNat * 128 + h.ftype.toNat) := by
  have hbits : ∀ (b : Bool) (t : BitVec 3), (0 : BitVec 24) ++ BitVec.ofBool b ++ (0 : BitVec 4) ++ t =
      BitVec.ofNat 32 (b.toNat * 128 + t.toNat) := by decide
  exact hbits h.b7 h.ftype

/-- R129: `SYNC_STATE` as it reads. -/
theorem SyncState.code_setWidth (y : SyncState) :
    y.code.setWidth 32 = match y with | .seeking => 0 | .hdrBuf => 1 | .bodyBuf => 2 | .dispatch => 3 := by
  cases y <;> rfl

/-- Settles O51: a legal read returns `readReg`, which is each entry of the table at its offset and 0 elsewhere. -/
theorem registerReadsReturnTheirFields : Obligations.RegisterReadsReturnTheirFields := by
  intro s table htable
  have hoffsets : table.map (·.1) = registerOffsets := by rw [htable]; rfl
  have hfields : ∀ p ∈ table, s.readReg p.1 = p.2 := by
    rw [htable]
    refine List.forall_mem_append.2 ⟨?_, List.forall_mem_cons.2 ⟨SyncState.code_setWidth _, ?_⟩⟩
    · rw [← HdrRegs.typeReg_eq_ofNat]
      simp only [List.forall_mem_cons, List.not_mem_nil, false_implies, implies_true, and_true]
      and_intros <;> rfl
    · simp only [List.forall_mem_cons, List.not_mem_nil, false_implies, implies_true, and_true]
      and_intros <;> rfl
  refine ⟨fun p hp => ?listed, fun off h h4 hoff => ?reserved⟩
  case listed =>
    obtain ⟨h, h4⟩ := registerOffsets_legal p.1 (hoffsets ▸ List.mem_map_of_mem hp)
    rw [step_hostReads_register s h h4, hfields p hp]
  case reserved => rw [step_hostReads_register s h h4, s.readReg_eq_zero (hoffsets ▸ hoff)]

/-! ### Register writes -/

/-- The offsets whose write changes a register (R105, R108 to R120). -/
def writableOffsets : List Nat :=
  [0x004, 0x010, 0x014, 0x018, 0x01C, 0x034, 0x038, 0x040, 0x044, 0x048, 0x04C, 0x050, 0x054, 0x058, 0x05C]

section
variable (s : State) {off : Nat} (v : Word)

theorem loHalf_setWidth : loHalf (v.setWidth 64) = v := by
  rw [loHalf, ← BitVec.setWidth_eq_extractLsb' (by decide), BitVec.setWidth_setWidth_of_le v (by decide),
    BitVec.setWidth_eq]

/-- A legal write of a register other than `CMD` changes that register, and records the bus's answer. -/
theorem writeLeaves_writeReg (hoff : off < 0x100 ∧ off % 4 = 0 ∧ off ≠ 0x004) :
    WriteLeaves s off v (s.writeReg off v) := by
  obtain ⟨h, h4, hcmd⟩ := hoff
  have hc : isCommandWrite off .w32 = false := decide_eq_false fun ⟨heq, _⟩ => hcmd heq
  have hwrite : s.busWrite off .w32 (v.setWidth 64) = some (s.writeReg off v) := by
    rw [s.busWrite_registers .w32 _ h, if_pos (by simp [registerLegal, h4]), loHalf_setWidth]
  rw [WriteLeaves, step_hostWrites s .w32 _ (h.trans (by decide))]
  exact hostAccess_write_of_some hc hwrite

/-- R100, R143: by the offsets `writeReg` distinguishes; the last case is a read-only or reserved offset. -/
theorem State.writeReg_eq_self (h : off ∉ writableOffsets) : s.writeReg off v = s := by
  unfold State.writeReg
  split
  case h_16 => rfl
  all_goals exact absurd (by decide) h

end

/-- Settles O52: a legal write does what `writeReg` says at its offset. -/
theorem registerWritesStoreLegalValues : Obligations.RegisterWritesStoreLegalValues := by
  intro s v
  have hwrite {off : Nat} := writeLeaves_writeReg s (off := off) v
  refine ⟨hwrite (by decide), hwrite (by decide), hwrite (by decide), hwrite (by decide), ⟨_, hwrite (by decide), rfl⟩,
    hwrite (by decide), hwrite (by decide), hwrite (by decide), hwrite (by decide), hwrite (by decide),
    hwrite (by decide), hwrite (by decide), hwrite (by decide), hwrite (by decide), fun off h h4 hoff => ?ignored⟩
  case ignored =>
    have := hwrite ⟨h, h4, fun heq => hoff (heq ▸ List.mem_cons_self)⟩
    rwa [s.writeReg_eq_self v hoff] at this

end Sys2Proof.Machine
end

section
/-! The invariants of FEED's loop (46_frame_synchronizer.md): what every turn keeps, every FEED keeps. First the
synchronizer's own invariant (R460, R470) and `IRQ_PEND` (R611). -/

namespace Sys2Proof.Machine

/-! ### Induction over FEED's loop -/

/-- What holds at the start of FEED's loop and is kept by every turn holds at its end. -/
theorem feedEnd_induction {s : State} {input : List Byte} {P : FeedRun → Prop} (start : P (s.feedStart input))
    (turn : ∀ f g, P f → feedTurn s.syncEnv f = some g → P g) : P (s.feedEnd input) := by
  have hloop : ∀ fuel f, P f → P (feedLoop s.syncEnv fuel f) := by
    intro fuel
    induction fuel with
    | zero => exact fun f hf => hf
    | succ fuel ih =>
      intro f hf
      cases h : feedTurn s.syncEnv f with
      | none => rwa [feedLoop_exit h]
      | some g =>
        rw [feedLoop_turn h]
        exact ih g (turn f g hf h)
  exact hloop _ _ start

/-- What a turn gives the step: the run with a byte of `REPLAY` taken, or one of the chunk counted in `STREAM_POS`. -/
inductive FeedRun.Takes (f : FeedRun) (b : Byte) : SyncRun → List Byte → Nat → Prop
  | replay {rest : List Byte} (hr : f.run.sync.replay = b :: rest) :
    f.Takes b { f.run with sync := { f.run.sync with replay := rest } } f.input f.taken
  | chunk {rest : List Byte} (hr : f.run.sync.replay = []) (hi : f.input = b :: rest) :
    f.Takes b { f.run with sync := { f.run.sync with streamPos := f.run.sync.streamPos + 1 } } rest (f.taken + 1)

/-- R472: a turn is a step on the byte it takes, outside DISPATCH. -/
theorem exists_takes_of_feedTurn {e : SyncEnv} {f g : FeedRun} (h : feedTurn e f = some g) :
    f.run.sync.state ≠ .dispatch ∧
      ∃ b r input taken, f.Takes b r input taken ∧ g = ⟨syncStep e b r, input, taken⟩ := by
  obtain ⟨-, heq⟩ | ⟨hs, b, rest, hr, heq⟩ | ⟨hs, hr, b, rest, hi, heq⟩ | ⟨-, -, -, heq⟩ := feedTurn_cases e f <;>
    cases heq.symm.trans h
  case inr.inl => exact ⟨hs, b, _, _, _, .replay hr, rfl⟩
  case inr.inr.inl => exact ⟨hs, b, _, _, _, .chunk hr hi, rfl⟩

/-! ### What a step can do -/

@[simp] theorem SyncRun.push_state (r : SyncRun) (b : Byte) : (r.push b).sync.state = r.sync.state := rfl

/-- R461: the ways a step outside DISPATCH can go. -/
inductive SyncRun.Steps (e : SyncEnv) (b : Byte) (r : SyncRun) : SyncRun → Prop
  | opens (hs : r.sync.state = .seeking) (hb : b = syncByte) :
    r.Steps e b { r with sync := { r.sync with acc := [b], state := .hdrBuf } }
  | skips (hs : r.sync.state = .seeking) :
    r.Steps e b { r with sync := { r.sync with skipCnt := r.sync.skipCnt + 1 } }
  | grows (hs : (r.sync.state = .hdrBuf ∧ r.sync.acc.length + 1 ≠ 14) ∨
      (r.sync.state = .bodyBuf ∧ r.sync.acc.length + 1 ≠ r.sync.frameLen.toNat)) : r.Steps e b (r.push b)
  | acceptsHeader (hs : r.sync.state = .hdrBuf) (hlen : r.sync.acc.length + 1 = 14)
      (hcheck : hdrCheck ((r.push b).sync.acc.getD 1 0) (declaredLen (r.push b).sync.acc) = none) :
    r.Steps e b { r.push b with
      sync := { (r.push b).sync with
        frameType := typeCode ((r.push b).sync.acc.getD 1 0)
        frameLen := BitVec.ofNat 16 (declaredLen (r.push b).sync.acc)
        state := .bodyBuf } }
  | resyncs (hs : r.sync.state = .hdrBuf ∨ r.sync.state = .bodyBuf) (c : CmdError)
      (hc : c.code = 3 ∨ c.code = 5 ∨ c.code = 6) (n : Word) :
    r.Steps e b (resync c { r.push b with sync := { (r.push b).sync with crcErrCnt := n } })
  | dispatches (hs : r.sync.state = .bodyBuf) (hlen : r.sync.acc.length + 1 = r.sync.frameLen.toNat)
      (haccepted : frameAccepted e (r.push b).sync = true) : r.Steps e b (dispatchFrame (r.push b))

theorem steps_syncStep {e : SyncEnv} {b : Byte} {r : SyncRun} (hs : r.sync.state ≠ .dispatch) :
    r.Steps e b (syncStep e b r) := by
  obtain ⟨hs, hb, heq⟩ | ⟨hs, -, heq⟩ | ⟨hs, hlen, heq⟩ | ⟨hs, hlen, heq⟩ | ⟨hs, hlen, heq⟩ | ⟨hs, hlen, heq⟩ :=
    syncStep_cases e b r hs <;> rw [heq]
  · exact .opens hs hb
  · exact .skips hs
  · exact .grows (.inl ⟨hs, hlen⟩)
  · obtain hc | ⟨hc, -⟩ | ⟨hc, -⟩ := hdrCheck_cases ((r.push b).sync.acc.getD 1 0) (declaredLen (r.push b).sync.acc)
    · exact checkHeader_of_rejected hc ▸ .resyncs (.inl hs) _ (.inl rfl) _
    · exact checkHeader_of_rejected hc ▸ .resyncs (.inl hs) _ (.inr (.inr rfl)) _
    · exact checkHeader_of_accepted hc ▸ .acceptsHeader hs hlen hc
  · exact .grows (.inr ⟨hs, hlen⟩)
  · cases ha : frameAccepted e (r.push b).sync with
    | true => exact completeFrame_of_accepted ha ▸ .dispatches hs hlen ha
    | false => exact completeFrame_of_refused ha ▸ .resyncs (.inr hs) .checksumMismatch (.inr (.inl rfl)) _

/-! ### The header of a candidate -/

theorem declaredLen_lt {bs : List Byte} (h : 4 ≤ bs.length) : declaredLen bs < 65536 := by
  have := (bs.getD 2 0).isLt
  have := (bs.getD 3 0).isLt
  rw [declaredLen_eq_getD h]
  omega

theorem sixteen_le_of_hdrCheck {b1 : Byte} {fl : Nat} (h : hdrCheck b1 fl = none) : 16 ≤ fl := by
  obtain hbad | ⟨hbad, -⟩ | ⟨-, hlen, -⟩ := hdrCheck_cases b1 fl
  · cases hbad.symm.trans h
  · cases hbad.symm.trans h
  · exact hlen

theorem Sync.HeaderAccepted.sixteen_le {y : Sync} (h : y.HeaderAccepted) : 16 ≤ y.frameLen.toNat := by
  obtain ⟨-, hcheck, -, hlen⟩ := h
  exact hlen ▸ sixteen_le_of_hdrCheck hcheck

/-- A byte after the header leaves the header as it is. -/
theorem Sync.HeaderAccepted.push {r : SyncRun} (b : Byte) (h : r.sync.HeaderAccepted) (hlen : 14 ≤ r.sync.acc.length) :
    (r.push b).sync.HeaderAccepted := by
  have hget : ∀ k < 14, (r.sync.acc ++ [b]).getD k 0 = r.sync.acc.getD k 0 := fun k hk =>
    List.getD_append _ _ _ _ (by omega)
  have hdeclared : declaredLen (r.sync.acc ++ [b]) = declaredLen r.sync.acc := by
    rw [declaredLen_eq_getD (by simp; omega), declaredLen_eq_getD (by omega), hget 2 (by decide), hget 3 (by decide)]
  rw [Sync.HeaderAccepted, SyncRun.push_acc, hget 0 (by decide), hget 1 (by decide), hdeclared]
  exact h

/-! ### The synchronizer's invariant -/

section
variable {y : Sync} (h : y.StateFits)
include h

theorem Sync.StateFits.of_seeking (hs : y.state = .seeking) : y.acc = [] := by
  rwa [Sync.StateFits, hs] at h

theorem Sync.StateFits.of_hdrBuf (hs : y.state = .hdrBuf) :
    1 ≤ y.acc.length ∧ y.acc.length ≤ 13 ∧ y.acc.getD 0 0 = 0xAA := by
  rwa [Sync.StateFits, hs] at h

theorem Sync.StateFits.of_bodyBuf (hs : y.state = .bodyBuf) :
    14 ≤ y.acc.length ∧ y.acc.length < y.frameLen.toNat ∧ y.HeaderAccepted := by
  rwa [Sync.StateFits, hs] at h

theorem Sync.StateFits.of_dispatch (hs : y.state = .dispatch) :
    16 ≤ y.acc.length ∧ y.acc.length = y.frameLen.toNat ∧ y.HeaderAccepted := by
  rwa [Sync.StateFits, hs] at h

end

/-- R460, R470: a candidate has room for one more byte of the chunk, which is taken only when `REPLAY` is empty. -/
theorem Sync.Inv.acc_length_lt {y : Sync} (h : y.Inv) (hs : y.state ≠ .dispatch) : y.acc.length < 65535 := by
  cases hstate : y.state with
  | seeking => simp [h.stateFits.of_seeking hstate]
  | hdrBuf =>
    obtain ⟨-, hlen, -⟩ := h.stateFits.of_hdrBuf hstate
    omega
  | bodyBuf =>
    obtain ⟨-, hlen, -⟩ := h.stateFits.of_bodyBuf hstate
    have := y.frameLen.isLt
    omega
  | dispatch => exact absurd hstate hs

/-- R141: a resync records one of its three causes. -/
theorem resync_inv {r : SyncRun} {c : CmdError} (hc : c.code = 3 ∨ c.code = 5 ∨ c.code = 6)
    (hroom : r.sync.acc.length + r.sync.replay.length ≤ 65536) (hacc : r.sync.acc ≠ []) : (resync c r).sync.Inv where
  stateFits := rfl
  bounded := by
    have := List.length_pos_of_ne_nil hacc
    simp only [resync, List.length_nil, List.length_append, List.length_tail]
    omega
  cause := .inr hc

section
variable {e : SyncEnv} {b : Byte} {r t : SyncRun}

/-- R461, R470: a step outside DISPATCH keeps the invariant when there is room for its byte. -/
theorem SyncRun.Steps.inv (h : r.Steps e b t) (hinv : r.sync.Inv)
    (hroom : r.sync.acc.length + r.sync.replay.length < 65535) : t.sync.Inv := by
  obtain ⟨hfits, -, hcause⟩ := hinv
  have hbounded : (r.push b).sync.acc.length + (r.push b).sync.replay.length ≤ 65535 := by simp; omega
  cases h with
  | opens hs hb => exact ⟨⟨by simp, by simp, hb⟩, by simp; omega, hcause⟩
  | skips hs =>
    have hempty := hfits.of_seeking hs
    refine ⟨?_, by simp; omega, hcause⟩
    simpa [Sync.StateFits, hs] using hempty
  | grows hs =>
    refine ⟨?_, hbounded, hcause⟩
    obtain ⟨hs, hne⟩ | ⟨hs, hne⟩ := hs
    · obtain ⟨hpos, hlen, hfirst⟩ := hfits.of_hdrBuf hs
      have hget : (r.sync.acc ++ [b]).getD 0 0 = 0xAA := (List.getD_append _ _ _ _ hpos).trans hfirst
      simp only [Sync.StateFits, SyncRun.push_state, hs, SyncRun.push_acc, List.length_append, List.length_singleton]
      exact ⟨by omega, by omega, hget⟩
    · obtain ⟨hlong, hlen, hheader⟩ := hfits.of_bodyBuf hs
      simp only [Sync.StateFits, SyncRun.push_state, hs, SyncRun.push_acc, List.length_append, List.length_singleton]
      exact ⟨by omega, Nat.lt_of_le_of_ne hlen hne, hheader.push b hlong⟩
  | acceptsHeader hs hlen hcheck =>
    obtain ⟨hpos, -, hfirst⟩ := hfits.of_hdrBuf hs
    have hget : (r.sync.acc ++ [b]).getD 0 0 = 0xAA := (List.getD_append _ _ _ _ hpos).trans hfirst
    have hpush : (r.push b).sync.acc.length = 14 := by simpa using hlen
    have hdeclared : (BitVec.ofNat 16 (declaredLen (r.push b).sync.acc)).toNat = declaredLen (r.push b).sync.acc :=
      Nat.mod_eq_of_lt (declaredLen_lt (by omega))
    have hshort := sixteen_le_of_hdrCheck hcheck
    exact ⟨⟨hpush.ge, by simp only [hdeclared]; omega, hget, hcheck, rfl, hdeclared⟩, hbounded, hcause⟩
  | resyncs hs c hc n => exact resync_inv hc (by simp; omega) (by simp)
  | dispatches hs hlen haccepted =>
    obtain ⟨hlong, -, hheader⟩ := hfits.of_bodyBuf hs
    have hpush : (r.push b).sync.acc.length = r.sync.frameLen.toNat := by simpa using hlen
    exact ⟨⟨hpush ▸ hheader.sixteen_le, hpush, hheader.push b hlong⟩, hbounded, hcause⟩

end

section
variable {e : SyncEnv} {b : Byte} {r : SyncRun} {f g : FeedRun} {input : List Byte} {taken : Nat}

theorem FeedRun.Takes.state_eq (h : f.Takes b r input taken) : r.sync.state = f.run.sync.state := by cases h <;> rfl

/-- R470: a byte is taken from `REPLAY`, which makes room for it, or while `REPLAY` is empty. -/
theorem FeedRun.Takes.inv_and_room (h : f.Takes b r input taken) (hs : f.run.sync.state ≠ .dispatch)
    (hinv : f.run.sync.Inv) : r.sync.Inv ∧ r.sync.acc.length + r.sync.replay.length < 65535 := by
  have hroom := hinv.acc_length_lt hs
  obtain ⟨hfits, hbounded, hcause⟩ := hinv
  cases h with
  | @replay rest hr =>
    have hlt : f.run.sync.acc.length + rest.length < 65535 := by
      rw [hr, List.length_cons] at hbounded
      omega
    exact ⟨⟨hfits, hlt.le, hcause⟩, hlt⟩
  | chunk hr hi => exact ⟨⟨hfits, hbounded, hcause⟩, by simpa [hr] using hroom⟩

/-- R470: a turn keeps the synchronizer's invariant. -/
theorem feedTurn_inv (h : feedTurn e f = some g) (hinv : f.run.sync.Inv) : g.run.sync.Inv := by
  obtain ⟨hs, b, r, input, taken, htakes, rfl⟩ := exists_takes_of_feedTurn h
  obtain ⟨hinv, hroom⟩ := htakes.inv_and_room hs hinv
  exact (steps_syncStep (htakes.state_eq ▸ hs)).inv hinv hroom

end

theorem feedEnd_inv {s : State} (input : List Byte) (h : s.sync.Inv) : (s.feedEnd input).run.sync.Inv :=
  feedEnd_induction (P := fun f => f.run.sync.Inv) h fun _ _ hf hturn => feedTurn_inv hturn hf

end Sys2Proof.Machine
end

section
/-! FEED (R472): what a whole command takes of its chunk, one chunk fed in two parts (R463), the stream as one run of
bytes (R469), and the frames it delivers (R466, R467). -/

namespace Sys2Proof.Machine

/-! ### The command and its loop -/

/-- R472: a FEED that succeeds leaves what its loop leaves on the chunk `BUF[OFF .. OFF+LEN-1]`. -/
theorem feed_eq_of_err_eq_false {s t : State} (h : exec .feed s = .next t) (herr : t.err = false) :
    t = (s.withFeed (s.feedEnd (s.memRead .buf s.off.toNat s.len.toNat))).succeed := by
  obtain ⟨u, hu, rfl⟩ := exists_perform_ok_of_err_eq_false h herr
  obtain hlt | hle := Nat.lt_or_ge s.limit.val (s.off.toNat + s.len.toNat)
  · cases hu.symm.trans (performFeed_of_lt hlt)
  · cases hu.symm.trans (performFeed_of_le hle)
    rfl

/-- R203, R472: a FEED in bounds succeeds. -/
theorem feed_eq_of_le {s t : State} (h : exec .feed s = .next t) (hle : s.off.toNat + s.len.toNat ≤ s.limit.val) :
    t = (s.withFeed (s.feedEnd (s.memRead .buf s.off.toNat s.len.toNat))).succeed := by
  have hsucceeds : exec .feed s = _ := succeeds_of_perform_ok (i := .feed) (performFeed_of_le hle)
  cases h.symm.trans hsucceeds
  rfl

/-- R472: the loop has taken a front part of the chunk. -/
def FeedRun.TakenFrom (bs : List Byte) (f : FeedRun) : Prop := f.taken ≤ bs.length ∧ f.input = bs.drop f.taken

theorem feedEnd_takenFrom (s : State) (bs : List Byte) : (s.feedEnd bs).TakenFrom bs := by
  refine feedEnd_induction (P := FeedRun.TakenFrom bs) ⟨Nat.zero_le _, rfl⟩ fun f g hf hturn => ?_
  obtain ⟨-, b, r, input, taken, htakes, rfl⟩ := exists_takes_of_feedTurn hturn
  obtain ⟨hle, hinput⟩ := hf
  cases htakes with
  | replay hr => exact ⟨hle, hinput⟩
  | chunk hr hi =>
    have hdrop : bs.drop f.taken = b :: input := hinput.symm.trans hi
    have hlt : f.taken < bs.length := by
      by_contra hge
      simp [List.drop_eq_nil_of_le (Nat.le_of_not_lt hge)] at hdrop
    refine ⟨hlt, ?_⟩
    rw [← List.drop_drop, hdrop]
    rfl

/-- R472: the two exits of the loop. -/
theorem FeedReaches.exit {e : SyncEnv} {f g : FeedRun} (h : FeedReaches e f g) :
    g.run.sync.state = .dispatch ∨ (g.run.sync.replay = [] ∧ g.input = []) := by
  induction h with
  | dispatched f hs => exact .inl hs
  | drained f hs hr hi => exact .inr ⟨hr, hi⟩
  | fromReplay f g b rest hs hr next ih => exact ih
  | fromBuf f g b rest hs hr hi next ih => exact ih

/-- R203: a chunk that a 32-bit `LEN` bounds has a count that `CONSUMED` holds. -/
theorem toNat_ofNat_taken {f : FeedRun} {bs : List Byte} (hbs : bs.length < 2 ^ 32) (h : f.TakenFrom bs) :
    (BitVec.ofNat 32 f.taken).toNat = f.taken :=
  Nat.mod_eq_of_lt (h.1.trans_lt hbs)

/-- In DISPATCH the loop makes no turn. -/
theorem feedEnd_of_dispatch {s : State} (h : s.sync.state = .dispatch) (bs : List Byte) :
    s.feedEnd bs = s.feedStart bs := by
  obtain ⟨-, hturn⟩ | ⟨hs, -⟩ | ⟨hs, -⟩ | ⟨hs, -⟩ := feedTurn_cases s.syncEnv (s.feedStart bs)
  · exact feedLoop_exit hturn _
  all_goals exact absurd h hs

/-- Settles O41: the loop takes a front part of the chunk, all of it when it exits outside DISPATCH, and makes no turn
from DISPATCH. -/
theorem feedDrainsUnlessDispatched : Obligations.FeedDrainsUnlessDispatched := by
  intro s t h herr
  obtain rfl := feed_eq_of_err_eq_false h herr
  have htaken := feedEnd_takenFrom s (s.memRead .buf s.off.toNat s.len.toNat)
  have hexit := (feedReaches_feedEnd s (s.memRead .buf s.off.toNat s.len.toNat)).exit
  have hstart := fun hs => feedEnd_of_dispatch (s := s) hs (s.memRead .buf s.off.toNat s.len.toNat)
  have hbs : (s.memRead .buf s.off.toNat s.len.toNat).length = s.len.toNat := s.memRead_length _ _ _
  generalize s.memRead .buf s.off.toNat s.len.toNat = bs at *
  have hcount := toNat_ofNat_taken (hbs ▸ s.len.isLt) htaken
  obtain ⟨hle, hinput⟩ := htaken
  refine ⟨?took, ?result, fun hs => ?drained, fun hs => ?kept⟩
  case took => simpa [hcount, ← hbs] using hle
  case result =>
    apply BitVec.eq_of_toNat_eq
    have := s.len.isLt
    simp
    omega
  case drained =>
    obtain ⟨hreplay, hempty⟩ := hexit.resolve_left hs
    refine ⟨BitVec.eq_of_toNat_eq ?_, hreplay⟩
    have := List.drop_eq_nil_iff.1 (hinput.symm.trans hempty)
    simp [hcount]
    omega
  case kept =>
    rw [hstart hs]
    rfl

/-! ### Two chunks -/

section
variable {e : SyncEnv} {f g k : FeedRun}

/-- R463: a loop that drains a chunk goes on with the bytes that follow it. -/
theorem FeedReaches.append (ys : List Byte) (h : FeedReaches e f g) (hs : g.run.sync.state ≠ .dispatch)
    (next : FeedReaches e { g with input := ys } k) : FeedReaches e { f with input := f.input ++ ys } k := by
  induction h with
  | dispatched f hf => exact absurd hf hs
  | drained f hf hr hi => simpa [hi] using next
  | fromReplay f g b rest hf hr _ ih => exact .fromReplay _ _ b rest hf hr (ih hs next)
  | fromBuf f g b rest hf hr hi _ ih => exact .fromBuf _ _ b (rest ++ ys) hf hr (by simp [hi]) (ih hs next)

/-- The loop counts from where its count stands. -/
theorem FeedReaches.add_taken (n : Nat) (h : FeedReaches e f g) :
    FeedReaches e { f with taken := n + f.taken } { g with taken := n + g.taken } := by
  induction h with
  | dispatched f hs => exact .dispatched _ hs
  | drained f hs hr hi => exact .drained _ hs hr hi
  | fromReplay f g b rest hs hr _ ih => exact .fromReplay _ _ b rest hs hr ih
  | fromBuf f g b rest hs hr hi _ ih => exact .fromBuf _ _ b rest hs hr hi ih

/-- R472: the loop's end is determined by its start, since at most one of its four cases applies to a run. -/
theorem FeedReaches.unique (hg : FeedReaches e f g) (hk : FeedReaches e f k) : g = k := by
  induction hg with
  | dispatched f hs => cases hk <;> simp_all
  | drained f hs hr hi => cases hk <;> simp_all
  | fromReplay f g b rest hs hr _ ih => cases hk <;> simp_all
  | fromBuf f g b rest hs hr hi _ ih => cases hk <;> simp_all

end

/-- R205: a range read as one is its two parts read one after the other. -/
theorem State.memRead_add (s : State) (sp : Space) (a m n : Nat) :
    s.memRead sp a (m + n) = s.memRead sp a m ++ s.memRead sp (a + m) n := by
  simp [State.memRead, List.range_add, Nat.add_assoc]

/-- R463: a FEED whose first part drains ends as the FEED of the second part does from what the first part left. -/
theorem feedEnd_append {s u : State} {xs : List Byte} (ys : List Byte)
    (hs : (s.feedEnd xs).run.sync.state ≠ .dispatch)
    (hstart : u.feedStart ys = { s.feedEnd xs with input := ys, taken := 0 }) (henv : u.syncEnv = s.syncEnv) :
    s.feedEnd (xs ++ ys) = { u.feedEnd ys with taken := (s.feedEnd xs).taken + (u.feedEnd ys).taken } := by
  have hsecond := (feedReaches_feedEnd u ys).add_taken (s.feedEnd xs).taken
  rw [hstart, henv] at hsecond
  exact (feedReaches_feedEnd s (xs ++ ys)).unique ((feedReaches_feedEnd s xs).append ys hs hsecond)

/-- `t` is what a FEED of the chunk `bs` leaves of `s`, as far as a FEED after it can see. -/
structure State.FeedsTo (s : State) (bs : List Byte) (t : State) : Prop where
  sync : t.sync = (s.feedEnd bs).run.sync
  pend : t.irqPend = (s.feedEnd bs).run.pend
  consumed : t.consumed.toNat = (s.feedEnd bs).taken
  limit : t.limit = s.limit
  env : t.syncEnv = s.syncEnv
  buf : ∀ a n, t.memRead .buf a n = s.memRead .buf a n

/-- R472: a FEED of the range `a`, `n` in bounds. -/
theorem feedsTo_of_range {s t : State} {a n : Nat}
    (h : exec .feed { s with off := BitVec.ofNat 32 a, len := BitVec.ofNat 32 n } = .next t)
    (hle : a + n ≤ s.limit.val) : s.FeedsTo (s.memRead .buf a n) t := by
  have hlimit : s.limit.val ≤ 65536 := Nat.le_of_lt_succ s.limit.isLt
  have ha : (BitVec.ofNat 32 a).toNat = a := Nat.mod_eq_of_lt (by omega)
  have hn : (BitVec.ofNat 32 n).toNat = n := Nat.mod_eq_of_lt (by omega)
  obtain rfl := feed_eq_of_le h (by simpa only [ha, hn] using hle)
  simp only [ha, hn]
  have hcount := toNat_ofNat_taken (by simp; omega) (feedEnd_takenFrom s (s.memRead .buf a n))
  exact ⟨rfl, rfl, hcount, rfl, rfl, fun _ _ => rfl⟩

/-- Settles O42: the chunk is its two parts one after the other, and so is the loop on it. -/
theorem feedResumesAcrossChunks : Obligations.FeedResumesAcrossChunks := by
  intro s t₁ t₂ t m n hlimit h₁ hs h₂ h
  have hoff : s.off = BitVec.ofNat 32 s.off.toNat := by simp
  have first := feedsTo_of_range (hoff ▸ h₁) (by omega)
  have second := feedsTo_of_range h₂ (by rw [first.limit]; exact hlimit)
  have whole := feedsTo_of_range (hoff ▸ h) (by omega)
  have hstart (ys : List Byte) :
      t₁.feedStart ys = { s.feedEnd (s.memRead .buf s.off.toNat m) with input := ys, taken := 0 } := by
    rw [State.feedStart, first.sync, first.pend]
  have hend := feedEnd_append (t₁.memRead .buf (s.off.toNat + m) n) (first.sync ▸ hs) (hstart _) first.env
  rw [first.buf, ← State.memRead_add] at hend
  rw [whole.sync, whole.pend, whole.consumed, second.sync, second.pend, second.consumed, first.consumed, first.buf,
    hend]
  exact ⟨rfl, rfl, rfl⟩

/-! ### The stream -/

/-- R469: the bytes the loop holds, in stream order. -/
def FeedRun.stream (f : FeedRun) : List Byte := f.run.sync.acc ++ f.run.sync.replay ++ f.input

/-- R462, R468, R469: a step puts its byte between candidate and `REPLAY`, or it drops the front byte of the three and
counts it. -/
theorem SyncRun.Steps.drops {e : SyncEnv} {b : Byte} {r t : SyncRun} (h : r.Steps e b t) (hfits : r.sync.StateFits) :
    t.sync.streamPos = r.sync.streamPos ∧
    ∃ d ≤ 1, t.sync.acc ++ t.sync.replay = (r.sync.acc ++ b :: r.sync.replay).drop d ∧
      t.sync.skipCnt + t.sync.resyncCnt = r.sync.skipCnt + r.sync.resyncCnt + BitVec.ofNat 32 d := by
  cases h with
  | opens hs hb => exact ⟨rfl, 0, by simp, by simp [hfits.of_seeking hs], by simp⟩
  | skips hs => exact ⟨rfl, 1, by simp, by simp [hfits.of_seeking hs], add_right_comm _ _ _⟩
  | grows hs => exact ⟨rfl, 0, by simp, by simp, (BitVec.add_zero _).symm⟩
  | acceptsHeader hs hlen hcheck => exact ⟨rfl, 0, by simp, by simp, (BitVec.add_zero _).symm⟩
  | resyncs hs c hc n =>
    refine ⟨rfl, 1, by simp, ?_, (BitVec.add_assoc _ _ _).symm⟩
    rw [List.append_cons, List.drop_one, List.tail_append_of_ne_nil (by simp)]
    rfl
  | dispatches hs hlen haccepted => exact ⟨rfl, 0, by simp, by simp [dispatchFrame], (BitVec.add_zero _).symm⟩

/-- R469: the loop holds what it held at its start, less `d` bytes that it dropped from the front and counted. -/
def FeedRun.DropsFrom (s : State) (bs : List Byte) (f : FeedRun) : Prop :=
  f.run.sync.streamPos = s.sync.streamPos + BitVec.ofNat 32 f.taken ∧
  ∃ d ≤ (s.feedStart bs).stream.length, f.stream = (s.feedStart bs).stream.drop d ∧
    f.run.sync.skipCnt + f.run.sync.resyncCnt = s.sync.skipCnt + s.sync.resyncCnt + BitVec.ofNat 32 d

/-- What a turn takes it leaves between candidate and `REPLAY`, and counts in `STREAM_POS` if it is of the chunk. -/
theorem FeedRun.Takes.stream_eq {f : FeedRun} {b : Byte} {r : SyncRun} {input : List Byte} {taken : Nat}
    (h : f.Takes b r input taken) : f.stream = r.sync.acc ++ b :: r.sync.replay ++ input ∧
      r.sync.skipCnt + r.sync.resyncCnt = f.run.sync.skipCnt + f.run.sync.resyncCnt ∧
      ∀ p : Word, f.run.sync.streamPos = p + BitVec.ofNat 32 f.taken →
        r.sync.streamPos = p + BitVec.ofNat 32 taken := by
  cases h with
  | replay hr => exact ⟨by simp [FeedRun.stream, hr], rfl, fun _ => id⟩
  | chunk hr hi =>
    refine ⟨by simp [FeedRun.stream, hr, hi], rfl, fun p hp => ?_⟩
    rw [BitVec.ofNat_add, ← BitVec.add_assoc, ← hp]
    rfl

theorem feedEnd_dropsFrom {s : State} (hinv : s.sync.Inv) (bs : List Byte) : (s.feedEnd bs).DropsFrom s bs := by
  refine (feedEnd_induction (P := fun f => f.run.sync.Inv ∧ f.DropsFrom s bs) ?start fun f g hf hturn => ?turn).2
  case start => exact ⟨hinv, (BitVec.add_zero _).symm, 0, Nat.zero_le _, rfl, (BitVec.add_zero _).symm⟩
  case turn =>
    obtain ⟨hinv, hpos, d, hd, hstream, hcount⟩ := hf
    refine ⟨feedTurn_inv hturn hinv, ?_⟩
    obtain ⟨hs, b, r, input, taken, htakes, rfl⟩ := exists_takes_of_feedTurn hturn
    obtain ⟨htaken, hcount', hpos'⟩ := htakes.stream_eq
    obtain ⟨hsame, d', hd', hheld, hdropped⟩ :=
      (steps_syncStep (e := s.syncEnv) (b := b) (htakes.state_eq ▸ hs)).drops (htakes.inv_and_room hs hinv).1.stateFits
    refine ⟨hsame.trans (hpos' _ hpos), d + d', ?_, ?_, ?_⟩
    · have := congrArg List.length (hstream.symm.trans htaken)
      simp at this
      omega
    · rw [← List.drop_drop, ← hstream, htaken, List.drop_append_of_le_length (by simp; omega), ← hheld]
      rfl
    · rw [BitVec.ofNat_add, ← BitVec.add_assoc, ← hcount, ← hcount']
      exact hdropped

/-- Settles O43: every turn keeps the stream, and the rest is what the lengths of its parts say. -/
theorem feedKeepsTheStreamContiguous : Obligations.FeedKeepsTheStreamContiguous := by
  intro s t hinv h herr
  obtain rfl := feed_eq_of_err_eq_false h herr
  have htaken := feedEnd_takenFrom s (s.memRead .buf s.off.toNat s.len.toNat)
  have hdrops := feedEnd_dropsFrom hinv.sync (s.memRead .buf s.off.toNat s.len.toNat)
  have hbs : (s.memRead .buf s.off.toNat s.len.toNat).length = s.len.toNat := s.memRead_length _ _ _
  generalize s.memRead .buf s.off.toNat s.len.toNat = bs at *
  have hcount := toNat_ofNat_taken (hbs ▸ s.len.isLt) htaken
  obtain ⟨hle, hinput⟩ := htaken
  obtain ⟨hpos, d, hd, hstream, hdropped⟩ := hdrops
  have hlen := congrArg List.length hstream
  simp only [FeedRun.stream, State.feedStart, List.length_append, List.length_drop, hinput] at hd hlen
  simp only [State.succeed_sync, State.succeed_consumed, State.withFeed_sync, State.withFeed_consumed, hcount]
  have hlengths : d + (s.feedEnd bs).run.sync.acc.length + (s.feedEnd bs).run.sync.replay.length =
      s.sync.acc.length + s.sync.replay.length + (s.feedEnd bs).taken := by omega
  refine ⟨d, ?_, hlengths, hpos, ?_, ?_⟩
  · rw [← hinput]; exact hstream
  · have := congrArg (BitVec.ofNat 32) hlengths
    simp only [BitVec.ofNat_add] at this
    rw [pos0, pos0, hpos]
    grind
  · grind

/-! ### The frames -/

/-- R467: what the loop has delivered since it started in `s`: nothing, or, in DISPATCH, one frame that passed the check
that its type asks for. -/
structure FeedRun.DeliversFrom (s : State) (f : FeedRun) : Prop where
  none : f.run.sync.state ≠ .dispatch →
    f.run.sync.frameCnt = s.sync.frameCnt ∧ f.run.sync.cmdfCnt = s.sync.cmdfCnt ∧
      f.run.sync.framePos = s.sync.framePos
  one : f.run.sync.state = .dispatch →
    f.run.sync.frameCnt = s.sync.frameCnt + 1 ∧
      f.run.sync.cmdfCnt = s.sync.cmdfCnt + (if f.run.sync.frameType = 4 then 1 else 0) ∧
      f.run.sync.framePos = pos0 f.run.sync ∧ f.run.pend.getLsbD 0 = true ∧
      frameAccepted s.syncEnv f.run.sync = true

/-- R467: a turn runs outside DISPATCH, where nothing is delivered yet, and only the last kind of step delivers. -/
theorem feedTurn_deliversFrom {s : State} {f g : FeedRun} (h : feedTurn s.syncEnv f = some g)
    (hf : f.DeliversFrom s) : g.DeliversFrom s := by
  obtain ⟨hs, b, r, input, taken, htakes, rfl⟩ := exists_takes_of_feedTurn h
  have hr : r.sync.frameCnt = s.sync.frameCnt ∧ r.sync.cmdfCnt = s.sync.cmdfCnt ∧
      r.sync.framePos = s.sync.framePos := by
    cases htakes <;> exact hf.none hs
  have hs : r.sync.state ≠ .dispatch := htakes.state_eq ▸ hs
  have hsteps := steps_syncStep (e := s.syncEnv) (b := b) hs
  generalize syncStep s.syncEnv b r = t at hsteps ⊢
  cases hsteps with
  | opens => exact ⟨fun _ => hr, nofun⟩
  | skips => exact ⟨fun _ => hr, fun hd => absurd hd hs⟩
  | grows => exact ⟨fun _ => hr, fun hd => absurd hd hs⟩
  | acceptsHeader => exact ⟨fun _ => hr, nofun⟩
  | resyncs => exact ⟨fun _ => hr, nofun⟩
  | dispatches _ _ haccepted =>
    obtain ⟨hframe, hcmdf, -⟩ := hr
    refine ⟨fun hd => absurd rfl hd, fun _ => ⟨congrArg (· + 1) hframe, ?_, rfl, ?_, haccepted⟩⟩
    · rw [← hcmdf, add_ite, add_zero]
      rfl
    · simp [dispatchFrame, setPending]

theorem feedEnd_deliversFrom {s : State} (hs : s.sync.state ≠ .dispatch) (bs : List Byte) :
    (s.feedEnd bs).DeliversFrom s :=
  feedEnd_induction ⟨fun _ => ⟨rfl, rfl, rfl⟩, fun hd => absurd hd hs⟩
    fun _ _ hf hturn => feedTurn_deliversFrom hturn hf

/-- R466, R438: a frame of its declared length that was accepted has the right checksum, if its type asks for one. -/
theorem crc_eq_trailer_of_frameAccepted {e : SyncEnv} {y : Sync} {n : Nat} (hn : y.acc.length = n)
    (hlen : y.frameLen.toNat = n) (h : 2 ≤ n) (haccepted : frameAccepted e y = true)
    (hven : e.crcVen.getLsbD y.frameType.toNat = true) :
    crc e.crc16 (algOfBit (e.crcAlg.getLsbD y.frameType.toNat)) (y.acc.take (n - 2)) =
      (y.acc.getD (n - 2) 0 ++ y.acc.getD (n - 1) 0 : BitVec 16) := by
  by_contra hne
  rw [crc_algOfBit] at hne
  have hrefused := (frameAccepted_eq_false_iff hn hlen h).2 ⟨hven, hne⟩
  exact Bool.noConfusion (haccepted.symm.trans hrefused)

/-- Settles O44: the loop stops at the first frame it delivers, which the invariant and the check describe. -/
theorem onlyCheckedFramesAreDispatched : Obligations.OnlyCheckedFramesAreDispatched := by
  rintro s t n hinv h herr hs rfl
  obtain rfl := feed_eq_of_err_eq_false h herr
  have hdelivers := feedEnd_deliversFrom hs (s.memRead .buf s.off.toNat s.len.toNat)
  have hfits := (feedEnd_inv (s.memRead .buf s.off.toNat s.len.toNat) hinv.sync).stateFits
  refine ⟨hdelivers.none, fun hd => ?_⟩
  obtain ⟨hframe, hcmdf, hpos, hpend, haccepted⟩ := hdelivers.one hd
  obtain ⟨hlong, hlen, hheader⟩ := hfits.of_dispatch hd
  exact ⟨hframe, hcmdf, hpos, hpend, hlen, hheader,
    crc_eq_trailer_of_frameAccepted hlen rfl (by omega) haccepted⟩

end Sys2Proof.Machine
end

section
/-! Rules over all commands: which state a command can write (R101, R206, R211), `IRQ_PEND` (R611, R612), and the
commands that can be issued again (R213). -/

namespace Sys2Proof.Machine

/-! ### The frame of a command -/

/-- The encoder's commands (R420). -/
def encoderInstrs : List Instr := [.wru8, .wru16, .wru24, .wru32, .wri16, .wrf32, .wrf64]

/-- The synchronizer's commands (R472 to R474). -/
def streamInstrs : List Instr := [.feed, .frameack, .syncreset]

section
variable {i : Instr} {s t : State}

/-- R101: no command's update reaches the model's own fields, `CMD`, or an operand or configuration register. -/
theorem State.UpdatesTo.keeps_operands (h : s.UpdatesTo t) :
    (t.cfg = s.cfg ∧ t.epoch = s.epoch ∧ t.host = s.host ∧ t.resp = s.resp ∧ t.cmd = s.cmd) ∧
    (t.off = s.off ∧ t.len = s.len ∧ t.val = s.val ∧ t.limit = s.limit ∧ t.scaleVal = s.scaleVal ∧
      t.scalePb = s.scalePb ∧ t.angleSc = s.angleSc ∧ t.crcAlg = s.crcAlg ∧ t.crcVen = s.crcVen ∧
      t.irqEn = s.irqEn) := by
  cases h <;> exact ⟨⟨rfl, rfl, rfl, rfl, rfl⟩, rfl, rfl, rfl, rfl, rfl, rfl, rfl, rfl, rfl, rfl⟩

/-- What a command that computes `t` from `s` leaves unchanged of the state that only some commands write. -/
def KeepsOthersState (i : Instr) (s t : State) : Prop :=
  (i ∉ encoderInstrs → t.buf = s.buf) ∧
  ((∀ sp, i ≠ .hdrparse sp) → i ≠ .setdlen → t.hdr = s.hdr) ∧
  (i ∉ streamInstrs → t.sync = s.sync) ∧
  ((∀ sp, i ≠ .chkccitt sp) → (∀ sp, i ≠ .chk16 sp) → (∀ sp f p, i ≠ .decph sp f p) → t.res1 = s.res1) ∧
  (i ≠ .feed → t.irqPend = s.irqPend)

/-- R206, R211, R611: by the command's meaning; the commands of one family share a case. -/
theorem perform_keepsOthersState (h : perform i s = .ok t) : KeepsOthersState i s t := by
  unfold KeepsOthersState
  cases i with
  | nop => cases h; simp
  | rdu8 | rdu16 | rdu24 | rdu32 | rdi16 | rdf32 | rdf64 => obtain ⟨r, n, rfl⟩ := performRead_ok h; simp
  | wru8 | wru16 | wru24 | wru32 | wri16 | wrf32 | wrf64 => obtain rfl := performWrite_ok h; simp [encoderInstrs]
  | crcccitt | crc16 => obtain ⟨r, n, rfl⟩ := performCrc_ok h; simp
  | chkccitt | chk16 => obtain ⟨r0, r1, n, rfl⟩ := performChk_ok h; simp
  | hdrparse => obtain ⟨f, n, rfl⟩ := performHdrparse_ok h; simp
  | setdlen => obtain rfl := performSetdlen_ok h; simp
  | decf32 => obtain ⟨r, n, rfl⟩ := performDecf32_ok h; simp
  | decfix => obtain ⟨r, n, rfl⟩ := performDecfix_ok h; simp
  | decph => obtain ⟨r0, r1, n, rfl⟩ := performDecph_ok h; simp
  | feed => obtain ⟨bs, rfl⟩ := performFeed_ok h; simp [streamInstrs]
  | frameack => obtain rfl := performFrameack_ok h; simp [streamInstrs]
  | syncreset => cases h; simp [streamInstrs]

end

/-- Settles O48: a command that raises changes the status alone (R403), and one that succeeds keeps what its update does
not name. -/
theorem commandsWriteOnlyTheirOwnState : Obligations.CommandsWriteOnlyTheirOwnState := by
  intro i s t h
  obtain ⟨u, hu, hok⟩ | ⟨e, -, herr⟩ := exec_cases i s
  · cases hok.symm.trans h
    obtain ⟨hown, hregs⟩ := (perform_ok_updatesTo hu).keeps_operands
    obtain ⟨hbuf, hhdr, hsync, hres1, -⟩ := perform_keepsOthersState hu
    exact ⟨hown, hregs, hbuf, hhdr, hsync, hres1⟩
  · cases herr.symm.trans h
    simp

/-! ### Pending bits -/

/-- R611: `IRQ_PEND` as FEED's loop leaves it: bits are only set, and bit 2 is none of them. -/
def PendGrows (p q : BitVec 3) : Prop := (∀ k, p.getLsbD k = true → q.getLsbD k = true) ∧ q.getLsbD 2 = p.getLsbD 2

theorem PendGrows.refl (p : BitVec 3) : PendGrows p p := ⟨fun _ => id, rfl⟩

theorem pendGrows_setPending {p : BitVec 3} {k : Nat} (hk : k ≠ 2) : PendGrows p (setPending p k) := by
  refine ⟨fun j hj => by simp [setPending, hj], ?_⟩
  simp [setPending, hk.symm]

/-- R468, R467: a resync sets bit 1 and a frame bit 0. -/
theorem SyncRun.Steps.pendGrows {e : SyncEnv} {b : Byte} {r t : SyncRun} (h : r.Steps e b t) :
    PendGrows r.pend t.pend := by
  cases h with
  | resyncs => exact pendGrows_setPending (by decide)
  | dispatches => exact pendGrows_setPending (by decide)
  | opens | skips | grows | acceptsHeader => exact .refl _

theorem feedEnd_pendGrows (s : State) (bs : List Byte) : PendGrows s.irqPend (s.feedEnd bs).run.pend := by
  refine feedEnd_induction (P := fun f => PendGrows s.irqPend f.run.pend) (.refl _) fun f g hf hturn => ?_
  obtain ⟨hs, b, r, input, taken, htakes, rfl⟩ := exists_takes_of_feedTurn hturn
  have hr : r.pend = f.run.pend := by cases htakes <;> rfl
  obtain ⟨hset, htwo⟩ := hr ▸ (steps_syncStep (e := s.syncEnv) (b := b) (htakes.state_eq ▸ hs)).pendGrows
  exact ⟨fun k hk => hset k (hf.1 k hk), htwo.trans hf.2⟩

theorem perform_pendGrows {i : Instr} {s t : State} (h : perform i s = .ok t) : PendGrows s.irqPend t.irqPend := by
  by_cases hi : i = .feed
  · subst hi
    obtain ⟨bs, rfl⟩ := performFeed_ok h
    exact feedEnd_pendGrows s bs
  · obtain ⟨-, -, -, -, hpend⟩ := perform_keepsOthersState h
    rw [hpend hi]
    exact .refl _

/-- Settles O49: an error sets bit 2 and drops the rest, and a success leaves it. -/
theorem commandsOnlySetPendingBits : Obligations.CommandsOnlySetPendingBits := by
  intro i s t h
  obtain ⟨u, hu, hok⟩ | ⟨e, -, herr⟩ := exec_cases i s
  · cases hok.symm.trans h
    obtain ⟨hset, htwo⟩ := perform_pendGrows hu
    obtain ⟨-, -, -, -, hpend⟩ := perform_keepsOthersState hu
    exact ⟨hset, fun hi => by simp [hpend hi], nofun, fun _ => htwo⟩
  · cases herr.symm.trans h
    refine ⟨fun k hk => ?_, fun _ => ⟨?_, ?_⟩, fun _ => rfl, nofun⟩ <;> simp [setPending, *]

/-! ### Writing the same bytes again -/

theorem Memory.store_store (m : Memory) (a : Nat) (b : Byte) :
    Memory.store (Memory.store m a b) a b = Memory.store m a b := by
  induction m with
  | nil => simp [Memory.store]
  | cons c m ih =>
    rw [Memory.store]
    split_ifs with hlt heq
    · simp [Memory.store]
    · simp [Memory.store]
    · rw [Memory.store, if_neg hlt, if_neg heq, ih]

/-- A store at a higher offset comes behind a cell that is in place. -/
theorem Memory.store_store_of_lt {m : Memory} {a a' : Nat} {b b' : Byte} (hm : Memory.store m a b = m) (h : a < a') :
    Memory.store (Memory.store m a' b') a b = Memory.store m a' b' := by
  induction m with
  | nil => simp [Memory.store] at hm
  | cons c m ih =>
    rw [Memory.store] at hm
    split_ifs at hm with hlt heq
    · simp at hm
    · have hskip : ¬ a' < c.1 ∧ a' ≠ c.1 := by omega
      rw [Memory.store, if_neg hskip.1, if_neg hskip.2, Memory.store, if_neg hlt, if_pos heq,
        List.head_eq_of_cons_eq hm]
    · have hskip : ¬ a' < c.1 ∧ a' ≠ c.1 := by omega
      rw [Memory.store, if_neg hskip.1, if_neg hskip.2, Memory.store, if_neg hlt, if_neg heq,
        ih (List.tail_eq_of_cons_eq hm)]

theorem Memory.store_storeBytes {m : Memory} {a a' : Nat} {b : Byte} (bs : List Byte) (hm : Memory.store m a b = m)
    (h : a < a') : Memory.store (Memory.storeBytes m a' bs) a b = Memory.storeBytes m a' bs := by
  induction bs generalizing m a' with
  | nil => exact hm
  | cons b' bs ih => exact ih (Memory.store_store_of_lt hm h) (by omega)

theorem Memory.storeBytes_storeBytes (m : Memory) (a : Nat) (bs : List Byte) :
    Memory.storeBytes (Memory.storeBytes m a bs) a bs = Memory.storeBytes m a bs := by
  induction bs generalizing m a with
  | nil => rfl
  | cons b bs ih =>
    simp only [Memory.storeBytes]
    rw [Memory.store_storeBytes bs (Memory.store_store m a b) (Nat.lt_succ_self a), ih]

/-! ### Issuing a command again -/

/-- A state without what a command other than the encoder's and the synchronizer's writes. -/
def State.inputs (s : State) : State :=
  { s with
    err := false, errCode := 0, res0 := 0, res1 := 0, consumed := 0, irqPend := 0, hdr := HdrRegs.reset }

/-- `t` holds what such a command reads of `s`. -/
def State.SameInputs (s t : State) : Prop := t.inputs = s.inputs

section
variable {s t : State} (h : s.SameInputs t)
include h

theorem State.SameInputs.operand (sp : Space) (n : Nat) : t.operand sp n = s.operand sp n :=
  (congrArg (State.operand · sp n) h :)

theorem State.SameInputs.inBounds (sp : Space) (a n : Nat) : t.inBounds sp a n = s.inBounds sp a n :=
  (congrArg (State.inBounds · sp a n) h :)

theorem State.SameInputs.off : t.off = s.off := (congrArg State.off h :)

theorem State.SameInputs.len : t.len = s.len := (congrArg State.len h :)

theorem State.SameInputs.val : t.val = s.val := (congrArg State.val h :)

theorem State.SameInputs.cfg : t.cfg = s.cfg := (congrArg State.cfg h :)

theorem State.SameInputs.fixval : t.fixval = s.fixval := (congrArg State.fixval h :)

theorem State.SameInputs.angval : t.angval = s.angval := (congrArg State.angval h :)

end

theorem State.sameInputs_fail (s : State) (e : CmdError) : s.SameInputs (s.fail e) := rfl

/-- R213: an update that leaves a command's inputs alone, and changes nothing when it is made again. -/
def Repeatable (upd : State → State) : Prop :=
  ∀ s, s.SameInputs (upd s).succeed ∧ upd (upd s).succeed = (upd s).succeed

theorem repeatable_withResult (r : DWord) (n : Word) : Repeatable (·.withResult r n) := fun _ => ⟨rfl, rfl⟩

theorem repeatable_withResults (r0 r1 : DWord) (n : Word) : Repeatable (·.withResults r0 r1 n) := fun _ => ⟨rfl, rfl⟩

theorem repeatable_withHeader (h : HdrRegs) (n : Word) : Repeatable (·.withHeader h n) := fun _ => ⟨rfl, rfl⟩

theorem repeatable_withDataLength (d : Nat) : Repeatable (·.withDataLength d) := fun _ => ⟨rfl, rfl⟩

/-- R213: what a command does in `s` it does again in the state it leaves. -/
inductive Repeats (i : Instr) (s : State) : Prop
  | error (e : CmdError) (first : perform i s = .error e) (again : perform i (s.fail e) = .error e)
  | ok (u : State) (first : perform i s = .ok u) (again : perform i u.succeed = .ok u.succeed)

section
variable {i : Instr} {s : State}

theorem repeats_of_error {e : CmdError} (h : ∀ t, s.SameInputs t → perform i t = .error e) : Repeats i s :=
  .error e (h s rfl) (h _ (s.sameInputs_fail e))

theorem repeats_of_ok {upd : State → State} (hupd : Repeatable upd)
    (h : ∀ t, s.SameInputs t → perform i t = .ok (upd t)) : Repeats i s := by
  obtain ⟨hinputs, hagain⟩ := hupd s
  exact .ok _ (h s rfl) ((h _ hinputs).trans (congrArg _ hagain))

/-- A command that reads an operand and, unless it raises, makes a repeatable update of it. -/
theorem repeats_of_operand {sp : Space} {n : State → Nat} {f : State → List Byte → Except CmdError (State → State)}
    (hi : ∀ t, s.SameInputs t → perform i t = (t.operand sp (n t)).bind fun bs => (f t bs).map (· t))
    (hn : ∀ t, s.SameInputs t → n t = n s) (hf : ∀ t, s.SameInputs t → f t = f s)
    (hupd : ∀ bs upd, f s bs = .ok upd → Repeatable upd) : Repeats i s := by
  have heq (t : State) (ht : s.SameInputs t) :
      perform i t = (s.operand sp (n s)).bind fun bs => (f s bs).map (· t) := by
    rw [hi t ht, ht.operand, hn t ht, hf t ht]
  cases hop : s.operand sp (n s) with
  | error e => exact repeats_of_error (e := e) fun t ht => by rw [heq t ht, hop]; rfl
  | ok bs =>
    cases hcmd : f s bs with
    | error e => exact repeats_of_error (e := e) fun t ht => by simp [heq t ht, hop, hcmd, Except.bind, Except.map]
    | ok upd =>
      exact repeats_of_ok (hupd bs upd hcmd) fun t ht => by simp [heq t ht, hop, hcmd, Except.bind, Except.map]

variable {sp : Space}

theorem read_repeats {n : Nat} {ext : Nat → DWord} (hi : ∀ t, perform i t = performRead sp n ext t) : Repeats i s := by
  refine repeats_of_operand (sp := sp) (n := fun _ => n)
    (f := fun _ bs => .ok (·.withResult (ext (be bs)) (BitVec.ofNat 32 n)))
    (fun t _ => ?_) (fun _ _ => rfl) (fun _ _ => rfl) (fun bs upd h => ?_)
  · rw [hi, performRead]
    cases t.operand sp n <;> rfl
  · cases h
    exact repeatable_withResult _ _

theorem crc_repeats {g : CrcAlg} (hi : ∀ t, perform i t = performCrc g sp t) : Repeats i s := by
  refine repeats_of_operand (sp := sp) (n := fun t => t.len.toNat)
    (f := fun t bs => .ok (·.withResult ((crc t.cfg.crc16 g bs).setWidth 64) t.len))
    (fun t _ => ?_) (fun t ht => ?_) (fun t ht => ?_) (fun bs upd h => ?_)
  · rw [hi, performCrc]
    cases t.operand sp t.len.toNat <;> rfl
  · rw [ht.len]
  · rw [ht.cfg, ht.len]
  · cases h
    exact repeatable_withResult _ _

/-- The verdict on a frame image (R436, R437). -/
def chkUpdate (g : CrcAlg) (t : State) (bs : List Byte) : Except CmdError (State → State) :=
  if bodyCrc t.cfg.crc16 g bs ≠ trailer bs then .error .checksumMismatch
  else .ok (·.withResults ((bodyCrc t.cfg.crc16 g bs).setWidth 64) ((trailer bs).setWidth 64) t.len)

theorem performChk_eq {g : CrcAlg} {t : State} (h : 2 ≤ t.len.toNat) :
    performChk g sp t = (t.operand sp t.len.toNat).bind fun bs => (chkUpdate g t bs).map (· t) := by
  rw [performChk, if_neg (Nat.not_lt.2 h)]
  cases t.operand sp t.len.toNat with
  | error e => rfl
  | ok bs => by_cases hbad : bodyCrc t.cfg.crc16 g bs = trailer bs <;> simp [chkUpdate, hbad, Except.bind, Except.map]

theorem chk_repeats {g : CrcAlg} (hi : ∀ t, perform i t = performChk g sp t) : Repeats i s := by
  obtain hshort | hlen := Nat.lt_or_ge s.len.toNat 2
  · exact repeats_of_error fun t ht => (hi t).trans (performChk_of_short (.inl (ht.len ▸ hshort)))
  · refine repeats_of_operand (sp := sp) (n := fun t => t.len.toNat) (f := chkUpdate g)
      (fun t ht => (hi t).trans (performChk_eq (ht.len ▸ hlen))) (fun t ht => ?_) (fun t ht => ?_) (fun bs upd h => ?_)
    · rw [ht.len]
    · funext bs
      rw [chkUpdate, chkUpdate, ht.cfg, ht.len]
    · unfold chkUpdate at h
      split at h <;> cases h
      exact repeatable_withResults _ _ _

/-- The verdict on a header (R446). -/
def headerUpdate (sp : Space) (t : State) (bs : List Byte) : Except CmdError (State → State) :=
  if bs.getD 0 0 ≠ syncByte then .error .syncByteMismatch
  else
    match hdrCheck (bs.getD 1 0) (declaredLen bs) with
    | some e => .error e
    | none =>
      if t.inBounds sp t.off.toNat (declaredLen bs) then .ok (·.withHeader (headerFields bs) 14)
      else .error .bufferTooShort

theorem performHdrparse_eq (t : State) :
    performHdrparse sp t = (t.operand sp headerLen).bind fun bs => (headerUpdate sp t bs).map (· t) := by
  rw [performHdrparse]
  cases t.operand sp headerLen with
  | error e => rfl
  | ok bs =>
    simp only [Except.bind, headerUpdate]
    split
    · rfl
    · cases hdrCheck (bs.getD 1 0) (declaredLen bs) with
      | some e => rfl
      | none => by_cases hin : t.inBounds sp t.off.toNat (declaredLen bs) = true <;> simp [hin, Except.map]

theorem hdrparse_repeats : Repeats (.hdrparse sp) s := by
  refine repeats_of_operand (sp := sp) (n := fun _ => headerLen) (f := headerUpdate sp)
    (fun t _ => performHdrparse_eq t) (fun _ _ => rfl) (fun t ht => ?_) (fun bs upd h => ?_)
  · funext bs
    rw [headerUpdate, headerUpdate, ht.off, ht.inBounds]
  · unfold headerUpdate at h
    split at h
    · cases h
    · split at h
      · cases h
      · split at h <;> cases h
        exact repeatable_withHeader _ _

theorem setdlen_repeats : Repeats .setdlen s := by
  obtain hlong | hle := Nat.lt_or_ge maxDataLen s.val.toNat
  · exact repeats_of_error fun t ht => by rw [perform, performSetdlen, ht.val, if_pos hlong]
  · refine repeats_of_ok (repeatable_withDataLength s.val.toNat) fun t ht => ?_
    rw [perform, performSetdlen, ht.val, if_neg (Nat.not_lt.2 hle)]

/-- R455 to R457: a numeric command updates its results from its operand. -/
theorem numeric_repeats {n : Nat} {f : State → List Byte → State → State}
    (hi : ∀ t, perform i t = (t.operand sp n).map fun bs => f t bs t) (hf : ∀ t, s.SameInputs t → f t = f s)
    (hupd : ∀ bs, Repeatable (f s bs)) : Repeats i s := by
  refine repeats_of_operand (sp := sp) (n := fun _ => n) (f := fun t bs => .ok (f t bs))
    (fun t _ => ?_) (fun _ _ => rfl) (fun t ht => ?_) (fun bs upd h => ?_)
  · rw [hi]
    cases t.operand sp n <;> rfl
  · rw [hf t ht]
  · cases h
    exact hupd bs

/-- R206: a write in bounds puts the same bytes in the same cells. -/
theorem write_repeats {n : Nat} (hi : ∀ t, perform i t = performWrite n t) : Repeats i s := by
  obtain hlt | hle := Nat.lt_or_ge s.limit.val (s.off.toNat + n)
  · exact .error _ ((hi s).trans (performWrite_of_lt hlt)) ((hi (s.fail _)).trans (performWrite_of_lt hlt))
  · have hagain := performWrite_of_le (s := (s.withStored s.off.toNat n s.val).succeed) hle
    have hbuf := Memory.storeBytes_storeBytes s.buf s.off.toNat (beBytes n s.val)
    simp only [State.succeed, State.withStored, hbuf] at hagain
    exact .ok _ ((hi s).trans (performWrite_of_le hle)) ((hi _).trans hagain)

theorem perform_repeats (hi : i ∉ streamInstrs) : Repeats i s := by
  cases i with
  | nop => exact .ok s rfl rfl
  | rdu8 | rdu16 | rdu24 | rdu32 | rdi16 | rdf32 | rdf64 => exact read_repeats fun _ => rfl
  | wru8 | wru16 | wru24 | wru32 | wri16 | wrf32 | wrf64 => exact write_repeats fun _ => rfl
  | crcccitt | crc16 => exact crc_repeats fun _ => rfl
  | chkccitt | chk16 => exact chk_repeats fun _ => rfl
  | hdrparse => exact hdrparse_repeats
  | setdlen => exact setdlen_repeats
  | decf32 sp =>
    exact numeric_repeats (f := fun _ b t => t.withResult (cvtF32F64 (BitVec.ofNat 32 (be b))) 4)
      (fun t => perform_decf32 t sp) (fun _ _ => rfl) fun _ => repeatable_withResult _ _
  | decfix sp =>
    exact numeric_repeats (f := fun u b t => t.withResult (u.fixval (be b)) 2)
      (fun t => perform_decfix t sp) (fun t ht => by rw [ht.fixval]) fun _ => repeatable_withResult _ _
  | decph sp f p =>
    refine numeric_repeats (f := fun u b t =>
        t.withResults (phasorValues u f p b).1 (phasorValues u f p b).2 (BitVec.ofNat 32 (phasorLen f)))
      (fun t => perform_decph t sp f p) (fun t ht => ?_) fun _ => repeatable_withResults _ _ _
    have hvalues : phasorValues t f p = phasorValues s f p := by
      funext b
      cases f <;> cases p <;> simp [phasorValues, ht.fixval, ht.angval]
    rw [hvalues]
  | feed | frameack | syncreset => simp [streamInstrs] at hi

end

/-- Settles O50: the command computes in the state it left what it left there, or raises the same error again. -/
theorem reissuedCommandChangesNothing : Obligations.ReissuedCommandChangesNothing := by
  intro i s t hi h
  rw [exec_eq_finish_perform] at h ⊢
  cases perform_repeats (s := s) hi with
  | error e first again =>
    rw [first] at h
    cases h
    rw [again]
    simp [State.fail, setPending, BitVec.or_assoc]
  | ok u first again =>
    rw [first] at h
    cases h
    rw [again]
    rfl

end Sys2Proof.Machine
end

section
/-! What the two checksums detect (43_crc.md, 95_test_vectors.md S8-1): each step of a checksum is injective in the
checksum and in the byte, so that a change of one byte is never undone. -/

namespace Sys2Proof.Machine

/-! ### A step of a checksum -/

/-- R431: the polynomial 0x1021 has bit 0, which the shift clears, so that bit 0 of the result is the bit shifted
out. -/
theorem ccittBit_getLsbD_zero (c : BitVec 16) : (ccittBit c).getLsbD 0 = c.getLsbD 15 := by
  rw [ccittBit]
  cases h : c.getLsbD 15 <;> simp

/-- R432: the polynomial 0xA001 has bit 15, which the shift clears, so that bit 15 of the result is the bit shifted
out. -/
theorem crc16Bit_getLsbD_fifteen (c : BitVec 16) : (crc16Bit c).getLsbD 15 = c.getLsbD 0 := by
  rw [crc16Bit]
  cases h : c.getLsbD 0 <;> simp

theorem ccittBit_injective : Function.Injective ccittBit := by
  intro c d h
  have htop : c.getLsbD 15 = d.getLsbD 15 := by rw [← ccittBit_getLsbD_zero, h, ccittBit_getLsbD_zero]
  have hshift : c <<< 1 = d <<< 1 := by
    unfold ccittBit at h
    rw [htop] at h
    split at h
    · exact (BitVec.xor_left_inj _).1 h
    · exact h
  refine BitVec.eq_of_getLsbD_eq fun j hj => ?_
  by_cases hlast : j = 15
  · rw [hlast, htop]
  · have := congrArg (·.getLsbD (j + 1)) hshift
    simpa [show j + 1 < 16 by omega, BitVec.getLsbD_eq_getElem hj] using this

theorem crc16Bit_injective : Function.Injective crc16Bit := by
  intro c d h
  have hlow : c.getLsbD 0 = d.getLsbD 0 := by rw [← crc16Bit_getLsbD_fifteen, h, crc16Bit_getLsbD_fifteen]
  have hshift : c >>> 1 = d >>> 1 := by
    unfold crc16Bit at h
    rw [hlow] at h
    split at h
    · exact (BitVec.xor_left_inj _).1 h
    · exact h
  refine BitVec.eq_of_getLsbD_eq fun j hj => ?_
  cases j with
  | zero => exact hlow
  | succ j =>
    have := congrArg (·.getLsbD j) hshift
    simpa [Nat.add_comm 1 j] using this

theorem eightTimes_injective {f : BitVec 16 → BitVec 16} (hf : Function.Injective f) :
    Function.Injective (eightTimes f) :=
  hf.comp (hf.comp (hf.comp (hf.comp (hf.comp (hf.comp (hf.comp hf))))))

/-- R431, R432: the body of either algorithm's loop. -/
def crcByte : CrcAlg → BitVec 16 → Byte → BitVec 16
  | .ccitt => ccittByte
  | .crc16 => crc16Byte

theorem crcByte_left_injective (g : CrcAlg) (b : Byte) : Function.Injective (crcByte g · b) := by
  intro c d h
  cases g with
  | ccitt => exact (BitVec.xor_left_inj _).1 (eightTimes_injective ccittBit_injective h)
  | crc16 => exact (BitVec.xor_left_inj _).1 (eightTimes_injective crc16Bit_injective h)

/-- A byte that is XORed into the checksum, at either end, can be read back from it. -/
theorem setWidth_byte_injective : Function.Injective (BitVec.setWidth 16 : Byte → BitVec 16) := fun b b' h => by
  simpa using congrArg (BitVec.setWidth 8) h

theorem setWidth_byte_shiftLeft_injective : Function.Injective fun b : Byte => b.setWidth 16 <<< 8 := fun b b' h => by
  refine BitVec.eq_of_getLsbD_eq fun j hj => ?_
  have := congrArg (fun x : BitVec 16 => x.getLsbD (j + 8)) h
  simpa [show j + 8 < 16 by omega, show j < 16 by omega] using this

theorem crcByte_right_injective (g : CrcAlg) (c : BitVec 16) : Function.Injective (crcByte g c) := by
  intro b b' h
  cases g with
  | ccitt =>
    exact setWidth_byte_shiftLeft_injective ((BitVec.xor_right_inj _).1 (eightTimes_injective ccittBit_injective h))
  | crc16 => exact setWidth_byte_injective ((BitVec.xor_right_inj _).1 (eightTimes_injective crc16Bit_injective h))

theorem foldl_crcByte_injective (g : CrcAlg) (bs : List Byte) : Function.Injective (bs.foldl (crcByte g)) := by
  induction bs with
  | nil => exact fun _ _ h => h
  | cons b bs ih => exact ih.comp (crcByte_left_injective g b)

/-- R431, R432: a checksum is the loop over the bytes, and a final XOR. -/
theorem crc_eq_foldl (cfg : Crc16Cfg) (g : CrcAlg) :
    ∃ init xorout : BitVec 16, ∀ bs, crc cfg g bs = bs.foldl (crcByte g) init ^^^ xorout := by
  cases g with
  | ccitt => exact ⟨0xFFFF, 0, fun bs => (BitVec.xor_zero).symm⟩
  | crc16 => exact ⟨cfg.init, cfg.xorout, fun _ => rfl⟩

/-- Settles O26: the changed byte makes the checksums differ, and the bytes after it keep them so. -/
theorem crcDetectsEverySingleByteChange : Obligations.CrcDetectsEverySingleByteChange := by
  intro cfg g xs ys b b' hne heq
  obtain ⟨init, xorout, hcrc⟩ := crc_eq_foldl cfg g
  rw [hcrc, hcrc, BitVec.xor_left_inj, List.foldl_append, List.foldl_append, List.foldl_cons, List.foldl_cons] at heq
  exact hne (crcByte_right_injective g _ (foldl_crcByte_injective g ys heq))

/-! ### A changed byte of a frame image -/

/-- The bytes of `BUF` after one of them is changed. -/
theorem State.bufByte_store (s : State) (a x : Nat) (b : Byte) :
    ({ s with buf := Memory.store s.buf a b } : State).bufByte x = if x = a then b else s.bufByte x := by
  unfold State.bufByte
  split
  next h => simp [h, Memory.byteAt?_store_same]
  next h => simp [Memory.byteAt?_store_other _ _ h]

/-- A range outside which the change is reads as before. -/
theorem State.memRead_store_of_forall_ne (s : State) {a x n : Nat} (b : Byte) (h : ∀ k < n, x + k ≠ a) :
    ({ s with buf := Memory.store s.buf a b } : State).memRead .buf x n = s.memRead .buf x n :=
  List.map_congr_left fun k hk => (s.bufByte_store a (x + k) b).trans (if_neg (h k (List.mem_range.1 hk)))

/-- R205: a range is the bytes before one of its bytes, that byte, and the bytes after it. -/
theorem State.memRead_eq_append_cons (s : State) (sp : Space) {a k n : Nat} (hk : k < n) :
    s.memRead sp a n = s.memRead sp a k ++ s.spaceByte sp (a + k) :: s.memRead sp (a + k + 1) (n - k - 1) := by
  calc s.memRead sp a n
    _ = s.memRead sp a (k + (1 + (n - k - 1))) := by congr 1; omega
    _ = _ := by rw [s.memRead_add, s.memRead_add]; rfl

/-- R438: the trailer of the frame image at `OFF`, `LEN` is the checksum of its body. -/
def State.TrailerMatches (s : State) (g : CrcAlg) : Prop :=
  crc s.cfg.crc16 g (s.memRead .buf s.off.toNat (s.len.toNat - 2)) =
    s.operandByte .buf (s.len.toNat - 2) ++ s.operandByte .buf (s.len.toNat - 1)

section
variable {s : State} {g : CrcAlg} {k : Nat} {b : Byte}

theorem State.operandByte_store (s : State) (k j : Nat) (b : Byte) :
    ({ s with buf := Memory.store s.buf (s.off.toNat + k) b } : State).operandByte .buf j =
      if j = k then b else s.operandByte .buf j := by
  refine (s.bufByte_store (s.off.toNat + k) (s.off.toNat + j) b).trans ?_
  simp only [Nat.add_left_cancel_iff]
  rfl

/-- A changed byte of the body changes the checksum alone, and one of the trailer the trailer alone. -/
theorem not_trailerMatches_store (hmatch : s.TrailerMatches g) (hlen : 2 ≤ s.len.toNat) (hk : k < s.len.toNat)
    (hb : b ≠ s.bufByte (s.off.toNat + k)) :
    ¬ ({ s with buf := Memory.store s.buf (s.off.toNat + k) b } : State).TrailerMatches g := by
  intro hmatch'
  unfold State.TrailerMatches at hmatch hmatch'
  simp only [State.operandByte_store] at hmatch'
  obtain hbody | htrailer := Nat.lt_or_ge k (s.len.toNat - 2)
  · rw [if_neg (by omega), if_neg (by omega), ← hmatch, s.memRead_eq_append_cons .buf hbody,
      State.memRead_eq_append_cons _ .buf hbody, s.memRead_store_of_forall_ne b (fun j hj => by omega),
      s.memRead_store_of_forall_ne b (fun j hj => by omega)] at hmatch'
    refine crcDetectsEverySingleByteChange s.cfg.crc16 g _ _ _ _ ?_ hmatch'
    simpa [State.spaceByte, State.bufByte_store] using hb
  · rw [s.memRead_store_of_forall_ne b (fun j hj => by omega), hmatch] at hmatch'
    obtain rfl | rfl : k = s.len.toNat - 2 ∨ k = s.len.toNat - 1 := by omega
    · rw [if_pos rfl, if_neg (by omega), BitVec.append_left_inj] at hmatch'
      exact hb hmatch'.symm
    · rw [if_neg (by omega), if_pos rfl, BitVec.append_right_inj] at hmatch'
      exact hb hmatch'.symm

/-- R436, R437: what a check that succeeds has found. -/
theorem trailerMatches_of_chk {t : State} {i : Instr} (hi : perform i s = performChk g .buf s)
    (h : exec i s = .next t) (herr : t.err = false) :
    2 ≤ s.len.toNat ∧ s.off.toNat + s.len.toNat ≤ s.limit.val ∧ s.TrailerMatches g := by
  have hfails {e : CmdError} (hraises : Raises i s e) : False := by
    cases hraises.symm.trans h
    simp at herr
  obtain ⟨hshort, hchk⟩ := chk_raises_and_succeeds hi
  by_cases hbounds : 2 ≤ s.len.toNat ∧ s.off.toNat + s.len.toNat ≤ s.limit.val
  · obtain ⟨hlen, hlimit⟩ := hbounds
    exact ⟨hlen, hlimit, by_contra fun hne => hfails ((hchk hlen hlimit _ _ rfl rfl).1 hne)⟩
  · have hout : s.len.toNat < 2 ∨ s.limit.val < s.off.toNat + s.len.toNat := by omega
    exact (hfails (hshort hout)).elim

end

/-- Settles O27: the command's verdict turns with the trailer's, as its bounds do not depend on the byte. -/
theorem checkRejectsEveryCorruptedByte : Obligations.CheckRejectsEveryCorruptedByte := by
  intro s t i a b hi h herr hlo hhi hb
  obtain ⟨g, hg⟩ : ∃ g, ∀ u, perform i u = performChk g .buf u := by
    simp only [List.mem_cons, List.not_mem_nil, or_false] at hi
    obtain rfl | rfl := hi
    · exact ⟨.ccitt, fun _ => rfl⟩
    · exact ⟨.crc16, fun _ => rfl⟩
  obtain ⟨k, rfl⟩ := Nat.exists_eq_add_of_le hlo
  obtain ⟨hlen, hlimit, hmatch⟩ := trailerMatches_of_chk (hg s) h herr
  obtain ⟨hne, -⟩ := (chk_raises_and_succeeds (hg { s with buf := Memory.store s.buf (s.off.toNat + k) b })).2
    hlen hlimit _ _ rfl rfl
  exact hne (not_trailerMatches_store hmatch hlen (by omega) hb)

end Sys2Proof.Machine
end

section
/-! The invariant of the block (R460, R470, R122, R123, R128, R106, R600): it holds after reset, and every step keeps
it. -/

namespace Sys2Proof.Machine

/-! ### After reset -/

theorem Sync.reset_inv : Sync.reset.Inv := ⟨rfl, by decide, .inl rfl⟩

theorem HdrRegs.reset_inv : HdrRegs.reset.Inv := ⟨by decide, by decide, .inl ⟨rfl, rfl⟩⟩

theorem Memory.wf_nil : Memory.wf [] := ⟨.nil, nofun⟩

/-- Settles O58: the synchronizer, the header registers and the cells of `BUF`, each as reset leaves it. -/
theorem resetMeetsTheInvariant : Obligations.ResetMeetsTheInvariant :=
  ⟨Memory.wf_nil, Sync.reset_inv, HdrRegs.reset_inv, by decide, by decide⟩

/-! ### The encoder -/

section
variable {i : Instr} {s t : State}

/-- R203: a write in bounds is inside `BUF`. -/
theorem performWrite_wf {n : Nat} (hwf : Memory.wf s.buf) (h : performWrite n s = .ok t) : Memory.wf t.buf := by
  obtain hlt | hle := Nat.lt_or_ge s.limit.val (s.off.toNat + n)
  · cases (performWrite_of_lt hlt).symm.trans h
  · cases (performWrite_of_le hle).symm.trans h
    have hlimit : s.limit.val ≤ 65536 := Nat.le_of_lt_succ s.limit.isLt
    exact Memory.storeBytes_wf _ hwf (by rw [beBytes_length]; omega)

theorem perform_wf (hwf : Memory.wf s.buf) (h : perform i s = .ok t) : Memory.wf t.buf := by
  obtain ⟨hbuf, -⟩ := perform_keepsOthersState h
  cases i with
  | wru8 | wru16 | wru24 | wru32 | wri16 | wrf32 | wrf64 => exact performWrite_wf hwf h
  | _ => exact (hbuf (by simp [encoderInstrs])).symm ▸ hwf

/-! ### The header registers -/

/-- R442, R443: the fields of a header that passes the check. -/
theorem headerFields_inv {bs : List Byte} (hlen : 4 ≤ bs.length)
    (hcheck : hdrCheck (bs.getD 1 0) (declaredLen bs) = none) : (headerFields bs).Inv := by
  have hlt := declaredLen_lt hlen
  obtain hbad | ⟨hbad, -⟩ | ⟨-, hlong, h6, h7, hver⟩ := hdrCheck_cases (bs.getD 1 0) (declaredLen bs)
  · cases hbad.symm.trans hcheck
  · cases hbad.symm.trans hcheck
  · refine ⟨?_, hver, .inr ?_⟩
    · have : typeCode (bs.getD 1 0) ≠ 6 → typeCode (bs.getD 1 0) ≠ 7 → (typeCode (bs.getD 1 0)).toNat ≤ 5 := by
        generalize typeCode (bs.getD 1 0) = c
        revert c
        decide
      exact this h6 h7
    · have hflen : (headerFields bs).flen.toNat = declaredLen bs := Nat.mod_eq_of_lt hlt
      have hdlen : (headerFields bs).dlen.toNat = declaredLen bs - 16 := Nat.mod_eq_of_lt (by omega)
      omega

theorem State.operand_length {sp : Space} {n : Nat} {bs : List Byte} (h : s.operand sp n = .ok bs) : bs.length = n := by
  unfold State.operand at h
  split at h <;> cases h
  exact s.memRead_length sp _ n

/-- R446: HDRPARSE writes the header registers from a header that passed the check. -/
theorem performHdrparse_hdr_inv {sp : Space} (h : performHdrparse sp s = .ok t) : t.hdr.Inv := by
  unfold performHdrparse at h
  split at h
  · cases h
  next bs hbs =>
    split at h
    · cases h
    · split at h
      · cases h
      next hcheck =>
        split at h <;> cases h
        exact headerFields_inv (by rw [s.operand_length hbs]; decide) hcheck

/-- R447: SETDLEN writes a length that a frame can have. -/
theorem performSetdlen_hdr_inv (hinv : s.hdr.Inv) (h : performSetdlen s = .ok t) : t.hdr.Inv := by
  unfold performSetdlen at h
  split at h <;> cases h
  next hle =>
    have hval : s.val.toNat ≤ 65519 := Nat.not_lt.1 hle
    have hdlen : (s.withDataLength s.val.toNat).hdr.dlen.toNat = s.val.toNat := Nat.mod_eq_of_lt (by omega)
    have hflen : (s.withDataLength s.val.toNat).hdr.flen.toNat = s.val.toNat + 16 := Nat.mod_eq_of_lt (by omega)
    exact ⟨hinv.ftype, hinv.ver, .inr (by omega)⟩

theorem perform_hdr_inv (hinv : s.hdr.Inv) (h : perform i s = .ok t) : t.hdr.Inv := by
  obtain ⟨-, hhdr, -⟩ := perform_keepsOthersState h
  cases i with
  | hdrparse sp => exact performHdrparse_hdr_inv h
  | setdlen => exact performSetdlen_hdr_inv hinv h
  | _ => exact (hhdr nofun nofun).symm ▸ hinv

/-! ### The synchronizer -/

theorem perform_sync_inv (hinv : s.sync.Inv) (h : perform i s = .ok t) : t.sync.Inv := by
  obtain ⟨-, -, hsync, -⟩ := perform_keepsOthersState h
  cases i with
  | feed =>
    obtain ⟨bs, rfl⟩ := performFeed_ok h
    exact feedEnd_inv bs hinv
  | frameack =>
    obtain rfl := performFrameack_ok h
    exact ⟨rfl, Nat.le_trans (by simp) hinv.bounded, hinv.cause⟩
  | syncreset =>
    cases h
    exact Sync.reset_inv
  | _ => exact (hsync (by simp [streamInstrs])).symm ▸ hinv

/-! ### Commands and host events -/

theorem State.Inv.fail (h : s.Inv) (e : CmdError) : (s.fail e).Inv :=
  ⟨h.buf, h.sync, h.hdr, iff_of_true rfl e.code_ne_zero, e.code_le⟩

theorem exec_inv (hinv : s.Inv) (h : exec i s = .next t) : t.Inv := by
  obtain ⟨u, hu, hok⟩ | ⟨e, -, herr⟩ := exec_cases i s
  · cases hok.symm.trans h
    have hbuf := perform_wf hinv.buf hu
    have hsync := perform_sync_inv hinv.sync hu
    have hhdr := perform_hdr_inv hinv.hdr hu
    exact ⟨hbuf, hsync, hhdr, by simp, by simp⟩
  · cases herr.symm.trans h
    exact hinv.fail e

/-- No register that the host writes is part of the invariant. -/
theorem State.Inv.writeReg (h : s.Inv) (off : Nat) (v : Word) : (s.writeReg off v).Inv := by
  unfold State.writeReg
  split <;> exact ⟨h.buf, h.sync, h.hdr, h.err, h.code⟩

theorem State.Inv.withResp (h : s.Inv) (r : BusResponse) : (s.withResp r).Inv :=
  ⟨h.buf, h.sync, h.hdr, h.err, h.code⟩

theorem execute_inv {w : Word} (hinv : s.Inv) (h : execute w s = .next t) : t.Inv := by
  unfold execute at h
  split at h
  · exact exec_inv (hinv.writeReg 0x004 w) h
  · cases h
    exact (hinv.writeReg 0x004 w).fail .illegalCommand

/-- R208, R209: a legal window write is inside `BUF`. -/
theorem windowBytes_fit {k : Nat} {w : Width} (v : DWord) (hk : k < 65536) (hw : windowLegal k w = true) :
    k + (windowBytes w v).length ≤ 65536 := by
  have : w = .w8 ∨ (w = .w32 ∧ k % 4 = 0) := of_decide_eq_true hw
  obtain rfl | ⟨rfl, h4⟩ := this <;> simp [windowBytes] <;> omega

theorem busWrite_inv {off : Nat} {w : Width} {v : DWord} (hinv : s.Inv) (h : s.busWrite off w v = some t) : t.Inv := by
  obtain hoff | ⟨k, hk, rfl⟩ | ⟨k, hk, rfl⟩ | hoff := region_cases off
  · rw [s.busWrite_registers w v hoff] at h
    split at h <;> cases h
    exact hinv.writeReg off (loHalf v)
  · rw [s.busWrite_bufWindow w v hk] at h
    split at h <;> cases h
    next hw =>
      exact ⟨Memory.storeBytes_wf _ hinv.buf (windowBytes_fit v hk hw), hinv.sync, hinv.hdr, hinv.err, hinv.code⟩
  · rw [s.busWrite_accWindow w v hk] at h
    cases h
  · rw [s.busWrite_unmapped w v hoff] at h
    cases h

theorem hostAccess_inv {off : Nat} {w : Width} {k : AccessKind} (hinv : s.Inv) (h : hostAccess off w k s = .next t) :
    t.Inv := by
  unfold hostAccess at h
  split at h
  · split at h <;> cases h <;> exact hinv.withResp _
  · split at h
    · exact execute_inv (hinv.withResp _) h
    · split at h <;> cases h
      next hwrite => exact (busWrite_inv hinv hwrite).withResp _
      next => exact hinv.withResp _

theorem runEvent_inv {ev : HostEvent} (hinv : s.Inv) (h : runEvent ev s = .next t) : t.Inv := by
  cases ev with
  | hardwareReset =>
    cases h
    exact ⟨resetMeetsTheInvariant.buf, resetMeetsTheInvariant.sync, resetMeetsTheInvariant.hdr,
      resetMeetsTheInvariant.err, resetMeetsTheInvariant.code⟩
  | access a =>
    simp only [runEvent] at h
    split at h
    · exact hostAccess_inv hinv h
    · cases h
      exact hinv.withResp _

end

/-- Settles O59: an idle step changes nothing, and every event keeps the invariant. -/
theorem everyStepKeepsTheInvariant : Obligations.EveryStepKeepsTheInvariant := by
  intro s t hinv h
  simp only [step, runNext] at h
  split at h
  · cases h
    exact hinv
  next ev rest _ =>
    exact runEvent_inv (s := { s with host := rest }) ⟨hinv.buf, hinv.sync, hinv.hdr, hinv.err, hinv.code⟩ h

end Sys2Proof.Machine
end

section
/-! What the results of the numeric decoder depend on (45_numeric_decoder.md section 2, R458). -/

namespace Sys2Proof.Machine

/-- R455 to R457: a numeric command that succeeds leaves what its operand bytes determine. -/
theorem numeric_eq_of_err_eq_false {i : Instr} {s t : State} {sp : Space} {n : Nat} {f : List Byte → State}
    (hi : perform i s = (s.operand sp n).map f) (h : exec i s = .next t) (herr : t.err = false) :
    t = (f ((List.range n).map (s.operandByte sp))).succeed := by
  obtain hlt | hle := Nat.lt_or_ge (s.limitOf sp) (s.off.toNat + n)
  · cases (numeric_raises hi hlt).symm.trans h
    simp at herr
  · cases (numeric_succeeds hi hle).symm.trans h
    rfl

/-- The results agree when they are made from the operand bytes in one way. -/
theorem results_eq_of_operandBytes_eq {i : Instr} {s s' t t' : State} {sp : Space} {n : Nat} {f f' : List Byte → State}
    (hi : perform i s = (s.operand sp n).map f) (hi' : perform i s' = (s'.operand sp n).map f')
    (h : exec i s = .next t) (h' : exec i s' = .next t') (herr : t.err = false) (herr' : t'.err = false)
    (hn : ∀ b, (f b).consumed.toNat = n)
    (hbytes : ∀ k < t.consumed.toNat, s.operandByte sp k = s'.operandByte sp k)
    (hf : ∀ b, (f b).res0 = (f' b).res0 ∧ (f b).res1 = (f' b).res1) : t.res0 = t'.res0 ∧ t.res1 = t'.res1 := by
  obtain rfl := numeric_eq_of_err_eq_false hi h herr
  obtain rfl := numeric_eq_of_err_eq_false hi' h' herr'
  simp only [State.succeed_consumed, hn] at hbytes
  rw [List.map_congr_left fun k hk => hbytes k (List.mem_range.1 hk)]
  exact hf _

/-- R454, R457: the phasor's values depend on the state through the scale registers. -/
theorem phasorValues_congr {s s' : State} (hscale : s.scaleVal = s'.scaleVal) (hpb : s.scalePb = s'.scalePb)
    (hangle : s.angleSc = s'.angleSc) (f : PhasorFormat) (p : PhasorCoords) (b : List Byte) :
    phasorValues s f p b = phasorValues s' f p b := by
  cases f <;> cases p <;> simp [phasorValues, State.fixval, State.angval, State.factor, hscale, hpb, hangle]

/-- Settles O36: each command makes its results from its operand bytes and the scale registers, and O48 says what it
leaves alone. -/
theorem numericResultsDependOnlyOnOperands : Obligations.NumericResultsDependOnlyOnOperands := by
  intro s s' t t' i sp hi h h' herr herr'
  obtain ⟨-, -, hbuf, hhdr, hsync, -⟩ := commandsWriteOnlyTheirOwnState i s t h
  obtain rfl | rfl | ⟨f, p, rfl⟩ := hi <;>
    refine ⟨⟨hbuf (by simp), hhdr nofun nofun, hsync (by simp)⟩, fun hbytes hscale hpb hangle hres1 => ?_⟩
  · exact results_eq_of_operandBytes_eq (perform_decf32 s sp) (perform_decf32 s' sp) h h' herr herr'
      (fun _ => rfl) hbytes fun _ => ⟨rfl, hres1⟩
  · refine results_eq_of_operandBytes_eq (perform_decfix s sp) (perform_decfix s' sp) h h' herr herr'
      (fun _ => rfl) hbytes fun _ => ⟨?_, hres1⟩
    simp [State.fixval, State.factor, hscale, hpb]
  · refine results_eq_of_operandBytes_eq (perform_decph s sp f p) (perform_decph s' sp f p) h h' herr herr'
      (fun _ => by cases f <;> rfl) hbytes fun b => ?_
    simp [phasorValues_congr hscale hpb hangle f p b]

end Sys2Proof.Machine
end

section
/-! Binary64 products (45_numeric_decoder.md section 1): the special operands (R452), and the rounding of finite
products to nearest, ties to even (R450, R452). -/

namespace Sys2Proof.Machine

/-! ### The cases of a product -/

section
variable {a b : DWord}

/-- R452: the operands whose product is no number. -/
def InvalidProduct (a b : DWord) : Prop :=
  infMag < mag64 a ∨ infMag < mag64 b ∨ (mag64 a = 0 ∧ mag64 b = infMag) ∨ (mag64 a = infMag ∧ mag64 b = 0)

theorem f64mul_of_invalid (h : InvalidProduct a b) : f64mul a b = canonicalNaN :=
  if_pos (by simpa [InvalidProduct, isNaN64, isInf64, isZero64, or_assoc] using h)

theorem f64mul_of_valid (h : ¬ InvalidProduct a b) :
    f64mul a b =
      if mag64 a = infMag ∨ mag64 b = infMag then pack64 (sign64 a != sign64 b) infMag
      else if mag64 a = 0 ∨ mag64 b = 0 then pack64 (sign64 a != sign64 b) 0
      else pack64 (sign64 a != sign64 b)
        (roundMag (significandOf (mag64 a) * significandOf (mag64 b)) (scaleOf (mag64 a) + scaleOf (mag64 b))) := by
  rw [f64mul, if_neg (by simpa [InvalidProduct, isNaN64, isInf64, isZero64, or_assoc] using h)]
  simp [isInf64, isZero64]

theorem f64mul_of_infinite (h : ¬ InvalidProduct a b) (hinf : mag64 a = infMag ∨ mag64 b = infMag) :
    f64mul a b = pack64 (sign64 a != sign64 b) infMag := by
  rw [f64mul_of_valid h, if_pos hinf]

theorem f64mul_of_zero (ha : mag64 a < infMag) (hb : mag64 b < infMag) (hzero : mag64 a = 0 ∨ mag64 b = 0) :
    f64mul a b = pack64 (sign64 a != sign64 b) 0 := by
  rw [f64mul_of_valid (by unfold InvalidProduct; omega), if_neg (by omega), if_pos hzero]

theorem f64mul_of_finite (ha : mag64 a < infMag) (hb : mag64 b < infMag) (ha0 : mag64 a ≠ 0) (hb0 : mag64 b ≠ 0) :
    f64mul a b = pack64 (sign64 a != sign64 b)
      (roundMag (significandOf (mag64 a) * significandOf (mag64 b)) (scaleOf (mag64 a) + scaleOf (mag64 b))) := by
  rw [f64mul_of_valid (by unfold InvalidProduct; omega), if_neg (by omega), if_neg (by omega)]

/-! ### Special operands -/

/-- The XOR of the sign bits, in place. -/
theorem pack64_sign_zero (a b : DWord) : pack64 (sign64 a != sign64 b) 0 = (a ^^^ b) &&& 0x8000000000000000 := by
  have hmask : (0x8000000000000000 : DWord) = BitVec.twoPow 64 63 := rfl
  rw [hmask, BitVec.and_twoPow, BitVec.getLsbD_xor, sign64, sign64]
  cases a.getLsbD 63 <;> cases b.getLsbD 63 <;> rfl

theorem pack64_sign_infMag (a b : DWord) :
    pack64 (sign64 a != sign64 b) infMag = ((a ^^^ b) &&& 0x8000000000000000) ||| 0x7FF0000000000000 := by
  rw [← pack64_sign_zero]
  cases (sign64 a != sign64 b) <;> rfl

end

/-- Settles O34: the clauses are the cases of the product, with the sign bits in place. -/
theorem productOfSpecialOperands : Obligations.ProductOfSpecialOperands := by
  rintro a b _ _ rfl rfl
  rw [← pack64_sign_infMag, ← pack64_sign_zero]
  refine ⟨fun h => f64mul_of_invalid ?_, fun ha hb => f64mul_of_invalid (.inr (.inr (.inl ⟨ha, hb⟩))),
    fun ha hb => f64mul_of_invalid (.inr (.inr (.inr ⟨ha, hb⟩))),
    fun ha hb hb' => f64mul_of_infinite ?_ (.inl ha), fun hb ha ha' => f64mul_of_infinite ?_ (.inr hb),
    fun ha hb => f64mul_of_zero (ha.trans_lt (by decide)) hb (.inl ha),
    fun hb ha => f64mul_of_zero ha (hb.trans_lt (by decide)) (.inr hb)⟩
  · exact h.elim .inl fun h => .inr (.inl h)
  all_goals (unfold InvalidProduct mag64 infMag; omega)

/-! ### Values of magnitudes -/

/-- R450: a finite magnitude is its significand at its scale. -/
theorem units64_eq (mag : Nat) : units64 mag = significandOf mag * 2 ^ (scaleOf mag - 1) := by
  by_cases h : mag / 2 ^ 52 = 0
  · have hlt : mag < 2 ^ 52 := by omega
    rw [units64, significandOf, scaleOf, if_pos hlt, if_pos h, h, Nat.mod_eq_of_lt hlt]
    exact (Nat.mul_one mag).symm
  · have hlt : ¬ mag < 2 ^ 52 := by omega
    have hscale : max (mag / 2 ^ 52) 1 = mag / 2 ^ 52 := by omega
    rw [units64, significandOf, scaleOf, if_neg hlt, if_neg h, hscale]

theorem significandOf_pos {mag : Nat} (h : mag ≠ 0) : 0 < significandOf mag := by
  unfold significandOf
  split <;> omega

theorem one_le_scaleOf (mag : Nat) : 1 ≤ scaleOf mag := Nat.le_max_right _ _

/-- `n` counts units of `2^t` smallest subnormals, all 53 bits of it except in the subnormal range. -/
def FitsScale (t n : Nat) : Prop := (t = 0 ∨ 2 ^ 52 ≤ n) ∧ n ≤ 2 ^ 53

section
variable {t n : Nat}

/-- A count of units and the magnitude bits that hold it; one that reaches `2^53` carries into the exponent. -/
theorem units64_of_fitsScale (h : FitsScale t n) : units64 (t * 2 ^ 52 + n) = n * 2 ^ t := by
  obtain ⟨hlow, hhigh⟩ := h
  by_cases hsub : n < 2 ^ 52
  · obtain rfl : t = 0 := by omega
    rw [Nat.zero_mul, Nat.zero_add, units64, if_pos hsub, Nat.pow_zero, Nat.mul_one]
  · obtain hlt | rfl : n < 2 ^ 53 ∨ n = 2 ^ 53 := by omega
    · have hmag : t * 2 ^ 52 + n = (t + 1) * 2 ^ 52 + (n - 2 ^ 52) := by omega
      rw [hmag, units64_normal (by omega) (by omega), Nat.add_sub_cancel' (by omega), Nat.add_sub_cancel]
    · have hmag : t * 2 ^ 52 + 2 ^ 53 = (t + 2) * 2 ^ 52 + 0 := by omega
      have hexp : t + 2 - 1 = t + 1 := rfl
      rw [hmag, units64_normal (by omega) (by decide), hexp, Nat.pow_succ]
      ring

theorem exists_fitsScale (mag : Nat) : ∃ t n, mag = t * 2 ^ 52 + n ∧ FitsScale t n ∧ n < 2 ^ 53 := by
  refine ⟨mag / 2 ^ 52 - 1, mag - (mag / 2 ^ 52 - 1) * 2 ^ 52, ?_, ⟨?_, ?_⟩, ?_⟩ <;> omega

theorem units64_strictMono : StrictMono units64 := by
  refine strictMono_nat_of_lt_succ fun mag => ?_
  obtain ⟨t, n, rfl, hfits, hlt⟩ := exists_fitsScale mag
  rw [units64_of_fitsScale hfits, Nat.add_assoc, units64_of_fitsScale ⟨by have := hfits.1; omega, hlt⟩]
  exact Nat.mul_lt_mul_of_pos_right (Nat.lt_succ_self n) (Nat.two_pow_pos t)

/-- The next higher magnitude is at least a unit away. -/
theorem succ_mul_le_units64 (h : FitsScale t n) {c : Nat} (hc : t * 2 ^ 52 + n < c) : (n + 1) * 2 ^ t ≤ units64 c := by
  obtain ⟨hlow, hhigh⟩ := h
  refine Nat.le_trans ?_ (units64_strictMono.monotone hc)
  obtain hlt | rfl : n < 2 ^ 53 ∨ n = 2 ^ 53 := by omega
  · exact (units64_of_fitsScale (t := t) (n := n + 1) ⟨by omega, hlt⟩).ge
  · have hmag : (t * 2 ^ 52 + 2 ^ 53).succ = (t + 1) * 2 ^ 52 + (2 ^ 52 + 1) := by omega
    have hpow : 2 ^ (t + 1) = 2 ^ t * 2 := Nat.pow_succ 2 t
    rw [hmag, units64_of_fitsScale ⟨by omega, by decide⟩, hpow]
    omega

/-- The next lower magnitude is a unit away, except below a power of two. -/
theorem units64_le_pred_mul (h : FitsScale t n) (hne : t = 0 ∨ n ≠ 2 ^ 52) {c : Nat} (hc : c < t * 2 ^ 52 + n) :
    units64 c ≤ (n - 1) * 2 ^ t := by
  obtain ⟨hlow, hhigh⟩ := h
  have hle : c ≤ t * 2 ^ 52 + (n - 1) := by omega
  exact (units64_strictMono.monotone hle).trans (units64_of_fitsScale ⟨by omega, by omega⟩).le

end

/-! ### The nearest magnitude -/

/-- The units of a product are `2^-2148`, of which the smallest subnormal is `2^1074`. -/
theorem two_pow_1074_pos : 0 < 2 ^ 1074 := pow_pos zero_lt_two 1074

/-- No other magnitude is nearer to `p` than `r`, and where one is as near `r` is even; `unit` is the value of the
smallest subnormal in the units of `p`. -/
def IsNearestEven (unit p r : Nat) : Prop :=
  ∀ c, gap (units64 r * unit) p ≤ gap (units64 c * unit) p ∧
    (c ≠ r → gap (units64 r * unit) p = gap (units64 c * unit) p → r % 2 = 0)

/-- `n` steps of size `u` are the nearest to `p`, and an even number of them where the next is as near. -/
def RoundsTo (u p n : Nat) : Prop := 2 * gap (n * u) p ≤ u ∧ (2 * gap (n * u) p = u → n % 2 = 0)

/-- A value at most half a step from `p` is as near as any that is a step away from it. -/
theorem gap_le_of_step {u v w p : Nat} (hhalf : 2 * gap v p ≤ u) (hw : v + u ≤ w ∨ w + u ≤ v) :
    gap v p ≤ gap w p ∧ (gap v p = gap w p → 2 * gap v p = u) := by
  unfold gap at *
  omega

theorem gap_lt_of_lt {v w p : Nat} (hw : w < v) (hv : v ≤ p) : gap v p < gap w p := by
  unfold gap
  omega

/-- The magnitudes on either side of `n` steps are a step away, but for the lower one where `n` opens a binade and does
not exceed `p`. -/
theorem isNearestEven_of_roundsTo {unit p t n : Nat} (hunit : 0 < unit) (hfits : FitsScale t n)
    (hround : RoundsTo (2 ^ t * unit) p n) (hlow : t = 0 ∨ 2 ^ 52 * (2 ^ t * unit) ≤ p) :
    IsNearestEven unit p (t * 2 ^ 52 + n) := by
  intro c
  obtain ⟨hhalf, htie⟩ := hround
  have hvalue : units64 (t * 2 ^ 52 + n) * unit = n * (2 ^ t * unit) := by
    rw [units64_of_fitsScale hfits, Nat.mul_assoc]
  have heven : n % 2 = 0 → (t * 2 ^ 52 + n) % 2 = 0 := by omega
  have hstep (hw : n * (2 ^ t * unit) + 2 ^ t * unit ≤ units64 c * unit ∨
      units64 c * unit + 2 ^ t * unit ≤ n * (2 ^ t * unit)) :
      gap (n * (2 ^ t * unit)) p ≤ gap (units64 c * unit) p ∧
        (c ≠ t * 2 ^ 52 + n → gap (n * (2 ^ t * unit)) p = gap (units64 c * unit) p → (t * 2 ^ 52 + n) % 2 = 0) := by
    obtain ⟨hle, heq⟩ := gap_le_of_step hhalf hw
    exact ⟨hle, fun _ h => heven (htie (heq h))⟩
  obtain hc | rfl | hc := Nat.lt_trichotomy c (t * 2 ^ 52 + n)
  · rw [hvalue]
    obtain hbelow | habove := Nat.lt_or_ge p (n * (2 ^ t * unit))
    · refine hstep (.inr ?_)
      have hne : t = 0 ∨ n ≠ 2 ^ 52 := hlow.imp_right fun hlow heq => by
        rw [heq] at hbelow
        exact absurd hlow (Nat.not_le.2 hbelow)
      have hpos : 0 < n := Nat.pos_of_ne_zero (by rintro rfl; simp at hbelow)
      calc units64 c * unit + 2 ^ t * unit
        _ ≤ (n - 1) * 2 ^ t * unit + 2 ^ t * unit :=
            Nat.add_le_add_right (Nat.mul_le_mul_right unit (units64_le_pred_mul hfits hne hc)) _
        _ = (n - 1 + 1) * (2 ^ t * unit) := by rw [Nat.mul_assoc, Nat.succ_mul]
        _ = n * (2 ^ t * unit) := by rw [Nat.sub_add_cancel hpos]
    · have hlt := Nat.mul_lt_mul_of_pos_right (units64_strictMono hc) hunit
      rw [hvalue] at hlt
      have hgap := gap_lt_of_lt hlt habove
      exact ⟨hgap.le, fun _ heq => absurd heq hgap.ne⟩
  · exact ⟨le_rfl, fun hne => absurd rfl hne⟩
  · rw [hvalue]
    refine hstep (.inl ?_)
    calc n * (2 ^ t * unit) + 2 ^ t * unit
      _ = (n + 1) * 2 ^ t * unit := by rw [Nat.mul_assoc, Nat.succ_mul]
      _ ≤ units64 c * unit := Nat.mul_le_mul_right unit (succ_mul_le_units64 hfits hc)

/-! ### Overflow -/

/-- The value of a normal magnitude, counted in half units. -/
theorem units64_mul_eq_half_units {e n : Nat} (unit : Nat) (h : FitsScale (e + 1) n) :
    units64 ((e + 1) * 2 ^ 52 + n) * unit = 2 * n * (2 ^ e * unit) := by
  rw [units64_of_fitsScale h, Nat.pow_succ]
  ring

/-- R452: the nearest magnitude is a power of two or more from the midpoint below that power on: the magnitude below the
midpoint is odd. -/
theorem binade_le_iff_of_isNearestEven {unit p r : Nat} (e : Nat) (hunit : 0 < unit) (h : IsNearestEven unit p r) :
    (e + 1) * 2 ^ 52 + 2 ^ 53 ≤ r ↔ (2 ^ 54 - 1) * 2 ^ e * unit ≤ p := by
  have hbelow := units64_mul_eq_half_units (e := e) (n := 2 ^ 53 - 1) unit ⟨by omega, by decide⟩
  have habove := units64_mul_eq_half_units (e := e) (n := 2 ^ 53) unit ⟨by omega, by decide⟩
  obtain ⟨hle, -⟩ := h ((e + 1) * 2 ^ 52 + (2 ^ 53 - 1))
  obtain ⟨hle', htie⟩ := h ((e + 1) * 2 ^ 52 + 2 ^ 53)
  have hpos : 0 < 2 ^ e * unit := Nat.mul_pos (Nat.two_pow_pos e) hunit
  rw [Nat.mul_assoc]
  rw [hbelow] at hle
  rw [habove] at hle' htie
  unfold gap at hle hle' htie
  constructor
  · intro hr
    have hvalue := Nat.mul_le_mul_right unit (units64_strictMono.monotone hr)
    rw [habove] at hvalue
    generalize 2 ^ e * unit = u at *
    omega
  · intro hp
    by_contra hr
    have hvalue := Nat.mul_le_mul_right unit
      (units64_strictMono.monotone (show r ≤ (e + 1) * 2 ^ 52 + (2 ^ 53 - 1) by omega))
    have hsame : units64 r * unit = units64 ((e + 1) * 2 ^ 52 + (2 ^ 53 - 1)) * unit := by
      rw [hbelow] at hvalue ⊢
      generalize 2 ^ e * unit = u at *
      omega
    obtain rfl := units64_strictMono.injective (Nat.eq_of_mul_eq_mul_right hunit hsame)
    rw [hbelow] at htie hle'
    have heven := htie (by omega) (by generalize 2 ^ e * unit = u at *; omega)
    omega

/-! ### Rounding -/

theorem roundsTo_roundShift (m k : Nat) : RoundsTo (2 ^ k) m (roundShift m k) := by
  have hdiv := Nat.div_add_mod' m (2 ^ k)
  have hmod := Nat.mod_lt m (Nat.two_pow_pos k)
  unfold RoundsTo gap roundShift
  generalize 2 ^ k = u at *
  generalize m / u = q at *
  generalize m % u = r at *
  simp only
  split
  · rw [Nat.succ_mul q u]
    omega
  · omega

theorem gap_mul_right (m n c : Nat) : gap (m * c) (n * c) = gap m n * c := by
  rw [gap, gap, ← Nat.sub_mul, ← Nat.sub_mul, ← Nat.add_mul]

theorem RoundsTo.scale {u p n c : Nat} (h : RoundsTo u p n) (hc : 0 < c) : RoundsTo (u * c) (p * c) n := by
  have hgap : 2 * gap (n * (u * c)) (p * c) = 2 * gap (n * u) p * c := by
    rw [← Nat.mul_assoc n, gap_mul_right, Nat.mul_assoc 2]
  obtain ⟨hhalf, htie⟩ := h
  rw [RoundsTo, hgap]
  exact ⟨Nat.mul_le_mul_right c hhalf, fun heq => htie (Nat.eq_of_mul_eq_mul_right hc heq)⟩

theorem roundsTo_exact (u n : Nat) (hu : 0 < u) : RoundsTo u (n * u) n := by
  unfold RoundsTo gap
  omega

/-- Rounding does not leave an interval with whole ends. -/
theorem RoundsTo.le_of_le {u p n b : Nat} (h : RoundsTo u p n) (hu : 0 < u) (hb : b * u ≤ p) : b ≤ n := by
  obtain ⟨hhalf, -⟩ := h
  by_contra hlt
  have : (n + 1) * u ≤ b * u := Nat.mul_le_mul_right u (by omega)
  rw [Nat.succ_mul] at this
  unfold gap at hhalf
  omega

theorem RoundsTo.le_of_lt {u p n b : Nat} (h : RoundsTo u p n) (hb : p < b * u) : n ≤ b := by
  obtain ⟨hhalf, -⟩ := h
  by_contra hlt
  have : (b + 1) * u ≤ n * u := Nat.mul_le_mul_right u (by omega)
  rw [Nat.succ_mul] at this
  unfold gap at hhalf
  omega

/-- R450: the scale of the result's last place, as `roundMag` chooses it. -/
def roundScale (m e : Nat) : Nat := e + (m.log2 + 1) - 1129

/-- R450: the number of last places in the result. -/
def roundCount (m e : Nat) : Nat :=
  if e ≤ roundScale m e + 1076 then roundShift m (roundScale m e + 1076 - e)
  else m * 2 ^ (e - (roundScale m e + 1076))

theorem roundMag_eq (m e : Nat) : roundMag m e = min (roundScale m e * 2 ^ 52 + roundCount m e) infMag := rfl

theorem two_pow_mul_two_pow_pos (j k : Nat) : 0 < 2 ^ j * 2 ^ k := Nat.mul_pos (Nat.two_pow_pos j) (Nat.two_pow_pos k)

section
variable {m e : Nat} (he : 2 ≤ e)
include he

/-- The last place is `2^(t - 1074)`, so `m * 2^(e - 2150)` counts `2^(t + 1074)` of the units of `m * 2^(e - 2)`. -/
theorem roundsTo_roundCount : RoundsTo (2 ^ roundScale m e * 2 ^ 1074) (m * 2 ^ (e - 2)) (roundCount m e) := by
  unfold roundCount
  generalize roundScale m e = t
  split
  next h =>
    have hstep : 2 ^ t * 2 ^ 1074 = 2 ^ (t + 1076 - e) * 2 ^ (e - 2) := by
      rw [← Nat.pow_add, ← Nat.pow_add]
      congr 1
      omega
    rw [hstep]
    exact (roundsTo_roundShift m _).scale (Nat.two_pow_pos _)
  next h =>
    have hvalue : m * 2 ^ (e - 2) = m * 2 ^ (e - (t + 1076)) * (2 ^ t * 2 ^ 1074) := by
      rw [Nat.mul_assoc, ← Nat.pow_add, ← Nat.pow_add]
      congr 2
      omega
    rw [hvalue]
    exact roundsTo_exact _ _ (two_pow_mul_two_pow_pos t _)

variable (hm : 0 < m)
include hm

theorem roundScale_bounds :
    (roundScale m e = 0 ∨ 2 ^ 52 * (2 ^ roundScale m e * 2 ^ 1074) ≤ m * 2 ^ (e - 2)) ∧
      m * 2 ^ (e - 2) < 2 ^ 53 * (2 ^ roundScale m e * 2 ^ 1074) := by
  have hlow : 2 ^ (m.log2 + (e - 2)) ≤ m * 2 ^ (e - 2) := by
    rw [Nat.pow_add]
    exact Nat.mul_le_mul_right _ (Nat.log2_self_le hm.ne')
  have hhigh : m * 2 ^ (e - 2) < 2 ^ (m.log2 + 1 + (e - 2)) := by
    rw [Nat.pow_add]
    exact Nat.mul_lt_mul_of_pos_right Nat.lt_log2_self (Nat.two_pow_pos _)
  unfold roundScale
  constructor
  · refine or_iff_not_imp_left.2 fun ht => Nat.le_trans (Nat.le_of_eq ?_) hlow
    rw [← Nat.pow_add, ← Nat.pow_add]
    congr 1
    omega
  · refine Nat.lt_of_lt_of_le hhigh ?_
    rw [← Nat.pow_add, ← Nat.pow_add]
    exact Nat.pow_le_pow_right (by decide) (by omega)

/-- R450, R452: before the check for overflow, the magnitude is the nearest of all. -/
theorem isNearestEven_roundMag :
    IsNearestEven (2 ^ 1074) (m * 2 ^ (e - 2)) (roundScale m e * 2 ^ 52 + roundCount m e) := by
  obtain ⟨hlow, hhigh⟩ := roundScale_bounds he hm
  have hround := roundsTo_roundCount (m := m) he
  have hu := two_pow_mul_two_pow_pos (roundScale m e) 1074
  exact isNearestEven_of_roundsTo two_pow_1074_pos
    ⟨hlow.imp_right (hround.le_of_le hu), hround.le_of_lt hhigh⟩ hround hlow

end

/-! ### Finite products -/

/-- R450: the exact product, from significands and scales. -/
theorem units64_mul_units64 (x y : Nat) :
    units64 x * units64 y = significandOf x * significandOf y * 2 ^ (scaleOf x + scaleOf y - 2) := by
  have hx := one_le_scaleOf x
  have hy := one_le_scaleOf y
  have hexp : scaleOf x + scaleOf y - 2 = scaleOf x - 1 + (scaleOf y - 1) := by omega
  rw [units64_eq x, units64_eq y, hexp, Nat.pow_add, Nat.mul_mul_mul_comm]

theorem isNearestEven_zero (unit : Nat) : IsNearestEven unit 0 0 := fun c => by
  simp [units64, gap]

/-- R452: a finite product is the nearest of all magnitudes, or an infinity where that one is beyond the finite ones. -/
theorem exists_isNearestEven_f64mul {a b : DWord} (ha : mag64 a < infMag) (hb : mag64 b < infMag) :
    ∃ r, IsNearestEven (2 ^ 1074) (units64 (mag64 a) * units64 (mag64 b)) r ∧
      f64mul a b = pack64 (sign64 a != sign64 b) (min r infMag) := by
  by_cases hzero : mag64 a = 0 ∨ mag64 b = 0
  · have hproduct : units64 (mag64 a) * units64 (mag64 b) = 0 :=
      Nat.mul_eq_zero.2 (hzero.imp (fun h => by rw [h]; rfl) (fun h => by rw [h]; rfl))
    refine ⟨0, ?_, f64mul_of_zero ha hb hzero⟩
    rw [hproduct]
    exact isNearestEven_zero _
  · rw [not_or] at hzero
    obtain ⟨ha0, hb0⟩ := hzero
    have hscale : 2 ≤ scaleOf (mag64 a) + scaleOf (mag64 b) :=
      Nat.add_le_add (one_le_scaleOf (mag64 a)) (one_le_scaleOf (mag64 b))
    rw [f64mul_of_finite ha hb ha0 hb0, roundMag_eq, units64_mul_units64]
    exact ⟨_, isNearestEven_roundMag hscale (Nat.mul_pos (significandOf_pos ha0) (significandOf_pos hb0)), rfl⟩

/-- Settles O35: what is nearest of all is nearest of the finite magnitudes, and an infinity from the midpoint on. -/
theorem productIsRoundedToNearestEven : Obligations.ProductIsRoundedToNearestEven := by
  rintro a b _ _ r rfl rfl hr ha hb
  obtain ⟨n, hnearest, hproduct⟩ := exists_isNearestEven_f64mul ha hb
  have hlt : min n infMag < 2 ^ 63 := (Nat.min_le_right _ _).trans_lt (by decide)
  have hmag : r = min n infMag := by rw [hr, hproduct]; exact mag64_pack64 _ hlt
  have hsign : (f64mul a b).getLsbD 63 = (a.getLsbD 63 != b.getLsbD 63) := by rw [hproduct]; exact sign64_pack64 _ hlt
  rw [mag64, mag64] at hnearest
  have hoverflow := binade_le_iff_of_isNearestEven 2044 two_pow_1074_pos hnearest
  refine ⟨hsign, hmag.le.trans (Nat.min_le_right n infMag), ?_, fun hfinite c _ => ?_⟩
  · refine Iff.trans ?_ hoverflow
    rw [hmag]
    exact min_eq_right_iff
  · obtain rfl : r = n := by rw [hmag]; exact Nat.min_eq_left (by unfold infMag at *; omega)
    exact hnearest c

end Sys2Proof.Machine
end
